-- ==== Sys2Proof/Word.lean ====
section
/-! DEFINITION. The word types of the block: bytes of the serial link and 32-bit host words (R17, R52). -/

namespace Sys2Proof

/-- A byte: an 8-bit unsigned value (R14). -/
abbrev Byte := BitVec 8

/-- A host register word: 32 bits (R21, R52). -/
abbrev Word := BitVec 32

end Sys2Proof
end

