-- ==== Sys2Proof/Config.lean ====
section
/-! DEFINITION. What is fixed for one machine: the sizes R8 gives, the OPEN parameters of R8 and the free values,
both as constants without a body, so that nothing can be proved of their values. -/

namespace Sys2Proof.Config

/-- N_SLOTS (R8, R33). -/
abbrev nSlots : Nat := 15

/-- TXBUF_SIZE (R8, R36). -/
abbrev txbufSize : Nat := 73

/-- RXBUF_SIZE (R8, R37). -/
abbrev rxbufSize : Nat := 255

/-- TIMEOUT_RESET, the OPEN reset value of TIMEOUT.CYCLES (R8, R28; log entry 7). -/
opaque timeoutReset : Word

/-- By how much the OPEN LOCAL_LATENCY exceeds its least value 1 (R8; log entry 6). -/
opaque localLatencyExtra : Nat

/-- LOCAL_LATENCY: the cycles an operation spends in COMPUTE, and in VALIDATED; at least 1 (R8, R111, R115). -/
def localLatency : Nat := localLatencyExtra + 1

/-- F_CLK, OPEN; nothing but the relation of TIMEOUT to time depends on it (R8; log entry 13). -/
opaque fClk : Nat

/-- BASE, OPEN; no rule uses it (R8, R56; log entry 13). -/
opaque base : Nat

/-- FREE VALUE: the `d`-th byte an operation draws where no rule fixes the byte (R38; log entry 8). -/
opaque freeByte : Nat → Byte

/-- FREE VALUE: the byte on `tx_data` in the `d`-th cycle, where `tx_valid` = 0 (R19; log entry 9). -/
opaque freeTxData : Nat → Byte

/-- FREE VALUE: the `d`-th word a host read draws where no rule fixes the value (R38, R44, R141; log entry 9). -/
opaque freeWord : Nat → Word

end Sys2Proof.Config
end

