-- ==== Sys2Proof/Syntax.lean ====
section
/-! DEFINITION. The instructions: one constructor for each of the 38 rows of spec/opcode_table.json (log entry 3). -/

namespace Sys2Proof

/-- The closed enumeration of type tags (R63). -/
inductive TypeTag where
  | undefined | uint8 | uint16 | uint32 | blob | binary
deriving DecidableEq, Repr

/-- The tags with a wire encoding (R64). -/
inductive IntType where
  | uint8 | uint16 | uint32
deriving DecidableEq, Repr

/-- A parameter, the pair of a type tag and a value that one slot holds (R33, R34, R35). -/
structure Param where
  tag   : Byte
  value : Word
deriving DecidableEq, Repr

/-- The rows of the opcode table: operations of the host (R76), and the wire formats the block produces or parses. -/
inductive Instr where
  -- operations, CMD.OP 0 to 7 (R76)
  | nop
  | encode
  | merge
  | build
  | checksum
  | verify
  | classify
  | execute
  -- a lone parameter behind its header byte (R66)
  | paramUint8 (v : BitVec 8)
  | paramUint16 (v : BitVec 16)
  | paramUint32 (v : BitVec 32)
  -- a merged pair behind its shared header byte (R67)
  | pairUint8Uint8 (v1 : BitVec 8) (v2 : BitVec 8)
  | pairUint8Uint16 (v1 : BitVec 8) (v2 : BitVec 16)
  | pairUint8Uint32 (v1 : BitVec 8) (v2 : BitVec 32)
  | pairUint16Uint8 (v1 : BitVec 16) (v2 : BitVec 8)
  | pairUint16Uint16 (v1 : BitVec 16) (v2 : BitVec 16)
  | pairUint16Uint32 (v1 : BitVec 16) (v2 : BitVec 32)
  | pairUint32Uint8 (v1 : BitVec 32) (v2 : BitVec 8)
  | pairUint32Uint16 (v1 : BitVec 32) (v2 : BitVec 16)
  | pairUint32Uint32 (v1 : BitVec 32) (v2 : BitVec 32)
  -- the command word (R69) and the two frames (R70, R71); a response frame is given by its payload R[1..L-3] (log entry
  -- 18)
  | cmdword (functionCode : BitVec 12) (count : BitVec 4)
  | requestFrame (functionCode : BitVec 12) (params : List Param)
  | responseFrame (payload : List Byte)
  -- command words of consumer calls (R78)
  | fc010
  | fc011
  | fc021
  | fc031
  | fc041
  | fc051
  -- result codes (R74)
  | noError
  | crcError
  | methodError
  | parametersError
  | tooEarlyError
  | timeoutError
  | undefinedError
  | redefinedError
  | genericError
deriving DecidableEq, Repr

end Sys2Proof
end

