-- ==== Sys2Proof/Machine/Codes.lean ====
section
/-! DEFINITION. The closed sets of codes the block's registers hold (R40, R76, R122, R123, R124), with their numbers.
Values the spec says are never produced (R77 e) have no constructor (log entry 12). -/

namespace Sys2Proof.Machine

/-- The sequencer states (R40). -/
inductive SeqState where
  | idle | compute | frameSent | awaitLen | awaitBody | validated
deriving DecidableEq, Repr

/-- The operations CMD.OP selects (R76). -/
inductive Op where
  | nop | encode | merge | build | checksum | verify | classify | execute
deriving DecidableEq, Repr

/-- STATUS.OUTCOME (R122). -/
inductive OutcomeCode where
  | none | protocol | responseTimeout | responseCrcError | unknownCode | precondition
deriving DecidableEq, Repr

/-- STATUS.PRE_ERR (R124). -/
inductive PreErr where
  | none | tooManyParams | unsupportedType | valueRange
deriving DecidableEq, Repr

/-- STATUS.FAIL_CAUSE (R123). -/
inductive FailCause where
  | none | noLength | lengthTooSmall | truncated | crcMismatch | noCodeByte
deriving DecidableEq, Repr

/-- A raised precondition error: `raise Precondition(code, slot)` (R125). -/
structure Precondition where
  code : PreErr
  slot : BitVec 4
deriving DecidableEq, Repr

/-- What classify answers: the triple of OUTCOME, FAIL_CAUSE and RESULT (R107). -/
structure Classification where
  outcome   : OutcomeCode
  failCause : FailCause
  result    : Byte
deriving DecidableEq, Repr

/-- STATUS.STATE of a sequencer state (R40). -/
def SeqState.code : SeqState → BitVec 3
  | .idle => 0 | .compute => 1 | .frameSent => 2 | .awaitLen => 3 | .awaitBody => 4 | .validated => 5

/-- CMD.OP of an operation (R76). -/
def Op.code : Op → BitVec 3
  | .nop => 0 | .encode => 1 | .merge => 2 | .build => 3 | .checksum => 4 | .verify => 5 | .classify => 6 | .execute => 7

/-- The operation a CMD.OP value selects; all eight values are defined (R76, R77 a). -/
def Op.ofCode (c : BitVec 3) : Op :=
  match c.toNat with
  | 0 => .nop | 1 => .encode | 2 => .merge | 3 => .build | 4 => .checksum | 5 => .verify | 6 => .classify | _ => .execute

/-- STATUS.OUTCOME's number (R122). -/
def OutcomeCode.code : OutcomeCode → BitVec 3
  | .none => 0 | .protocol => 1 | .responseTimeout => 2 | .responseCrcError => 3 | .unknownCode => 4 | .precondition => 5

/-- STATUS.PRE_ERR's number (R124). -/
def PreErr.code : PreErr → BitVec 2
  | .none => 0 | .tooManyParams => 1 | .unsupportedType => 2 | .valueRange => 3

/-- STATUS.FAIL_CAUSE's number (R123). -/
def FailCause.code : FailCause → BitVec 3
  | .none => 0 | .noLength => 1 | .lengthTooSmall => 2 | .truncated => 3 | .crcMismatch => 4 | .noCodeByte => 5

/-- The tag value of the enumeration (R63). -/
def TypeTag.code : TypeTag → Byte
  | .undefined => 0x00 | .uint8 => 0x01 | .uint16 => 0x02 | .uint32 => 0x03 | .blob => 0x07 | .binary => 0x80

/-- The tag value of a supported type (R63, R64). -/
def tagOf : IntType → Byte
  | .uint8 => 0x01 | .uint16 => 0x02 | .uint32 => 0x03

/-- The supported type of a tag value; every other value of the 8 bits has none (R64). -/
def typeOfTag (t : Byte) : Option IntType :=
  if t = 0x01 then some .uint8 else if t = 0x02 then some .uint16 else if t = 0x03 then some .uint32 else none

end Sys2Proof.Machine
end

