-- ==== Sys2Proof/Machine/Crc16.lean ====
section
/-! DEFINITION. The crc16-engine's function (R89, R90, R91, R92). -/

namespace Sys2Proof.Machine

/-- The high byte of a 16-bit value, `w[15:8]`. -/
def hiByte (w : BitVec 16) : Byte := w.extractLsb' 8 8

/-- The low byte of a 16-bit value, `w[7:0]`. -/
def loByte (w : BitVec 16) : Byte := w.extractLsb' 0 8

/-- The CRC polynomial without its x^16 term (R89). -/
def crcPoly : BitVec 16 := 0xD175#16

/-- One shift of the MSB-first register (R90). -/
def crcShift (c : BitVec 16) : BitVec 16 :=
  if c.getLsbD 15 then (c <<< 1) ^^^ crcPoly else c <<< 1

/-- `n` shifts. -/
def crcShifts : Nat → BitVec 16 → BitVec 16
  | 0, c => c
  | n + 1, c => crcShifts n (crcShift c)

/-- crc_update: one byte into the register, its bits most significant first (R90). -/
def crcUpdate (c : BitVec 16) (b : Byte) : BitVec 16 :=
  crcShifts 8 (c ^^^ (b.setWidth 16 <<< 8))

/-- crc16 of a byte sequence: initial value 0, no final XOR, no reflection (R91). -/
def crc16 (s : List Byte) : BitVec 16 := s.foldl crcUpdate 0x0000#16

/-- A byte sequence with its CRC appended, big-endian (R92). -/
def withCrc (s : List Byte) : List Byte := s ++ [hiByte (crc16 s), loByte (crc16 s)]

end Sys2Proof.Machine
end

