-- ==== Sys2Proof/Machine/Wire.lean ====
section
/-! DEFINITION. The pure functions of the parameter-packer (R80-R86), the frame-builder (R98) and the
response-validator (R107). -/

namespace Sys2Proof.Machine

/-- W(t), the value bytes of a type (R65). -/
def typeWidth : IntType → Nat
  | .uint8 => 1 | .uint16 => 2 | .uint32 => 4

/-- The value bytes of a parameter, big-endian (R65). -/
def vbytes (t : IntType) (v : Word) : List Byte :=
  match t with
  | .uint8 => [v.extractLsb' 0 8]
  | .uint16 => [v.extractLsb' 8 8, v.extractLsb' 0 8]
  | .uint32 => [v.extractLsb' 24 8, v.extractLsb' 16 8, v.extractLsb' 8 8, v.extractLsb' 0 8]

/-- check_type (R80). -/
def checkType (t : Byte) (slot : BitVec 4) : Except Precondition IntType :=
  match typeOfTag t with
  | some ty => .ok ty
  | none => .error ⟨.unsupportedType, slot⟩

/-- check_range, applied after check_type has passed (R81). -/
def checkRange (ty : IntType) (v : Word) (slot : BitVec 4) : Except Precondition Unit :=
  match ty with
  | .uint8 => if 0xFF < v.toNat then .error ⟨.valueRange, slot⟩ else .ok ()
  | .uint16 => if 0xFFFF < v.toNat then .error ⟨.valueRange, slot⟩ else .ok ()
  | .uint32 => .ok ()

/-- check_param: type before range (R82); it answers the supported type. -/
def checkParam (p : Param) (slot : BitVec 4) : Except Precondition IntType :=
  match checkType p.tag slot with
  | .error e => .error e
  | .ok ty =>
    match checkRange ty p.value slot with
    | .error e => .error e
    | .ok () => .ok ty

/-- encode(t, v): the header byte and the value bytes (R83). -/
def encodeParam (ty : IntType) (v : Word) : List Byte := (tagOf ty <<< 4) :: vbytes ty v

/-- merge(prev, t2, v2): the second type is added into the first header byte (R84). -/
def mergeParam (prev : List Byte) (ty2 : IntType) (v2 : Word) : List Byte :=
  (prev.headD 0 + tagOf ty2) :: (prev.drop 1 ++ (encodeParam ty2 v2).drop 1)

/-- The loop of build that checks the slots in increasing index, from index `i` on (R98, R127); it answers the checked
parameters. -/
def checkParams : Nat → List Param → Except Precondition (List (IntType × Word))
  | _, [] => .ok []
  | i, p :: ps =>
    match checkParam p (BitVec.ofNat 4 i) with
    | .error e => .error e
    | .ok ty =>
      match checkParams (i + 1) ps with
      | .error e => .error e
      | .ok rest => .ok ((ty, p.value) :: rest)

/-- The packed parameter area: full pairs first, then a final unpaired parameter (R98, step 2). -/
def packParams : List (IntType × Word) → List Byte
  | [] => []
  | [(t, v)] => encodeParam t v
  | (t1, v1) :: (t2, v2) :: rest => mergeParam (encodeParam t1 v1) t2 v2 ++ packParams rest

/-- The command word `(function_code << 4) | parameter_count` (R69). -/
def commandWord (fc : BitVec 12) (n : BitVec 8) : BitVec 16 := (fc.setWidth 16 <<< 4) ||| n.setWidth 16

/-- Steps 1 to 4 of build after the checks: command word, parameter area, length byte, CRC (R98). -/
def assemble (fc : BitVec 12) (n : BitVec 8) (ps : List (IntType × Word)) : List Byte :=
  let cw := commandWord fc n
  let body := [hiByte cw, loByte cw] ++ packParams ps
  withCrc (BitVec.ofNat 8 (body.length + 3) :: body)

/-- build(fc, N, slots): every check is made before any byte is produced; slots at index ≥ N are not read (R98, R99). -/
def build (fc : BitVec 12) (n : BitVec 8) (slots : List Param) : Except Precondition (List Byte) :=
  if 15 < n.toNat then .error ⟨.tooManyParams, 0⟩
  else
    match checkParams 0 (slots.take n.toNat) with
    | .error e => .error e
    | .ok ps => .ok (assemble fc n ps)

/-- The result codes with a wire representation (R74). -/
def resultCodes : List Byte := [0x00, 0x01, 0x02, 0x03, 0x04, 0x05, 0x06, 0x07, 0xFF]

/-- The status byte of a response frame, R[2] (R72). -/
def statusByte (fr : List Byte) : Byte := fr.getD 2 0

/-- The error-code byte of a response frame, R[4] (R72). -/
def errorCodeByte (fr : List Byte) : Byte := fr.getD 4 0

/-- classify(buf, n) of the list of the first n bytes of a buffer; the tests stand in the order written (R107). -/
def classify (buf : List Byte) : Classification :=
  match buf with
  | [] => ⟨.responseTimeout, .noLength, 0x00⟩
  | len :: _ =>
    if len.toNat < 5 then ⟨.responseCrcError, .lengthTooSmall, 0x00⟩
    else if buf.length < len.toNat then ⟨.responseCrcError, .truncated, 0x00⟩
    else
      let fr := buf.take len.toNat
      if crc16 fr ≠ 0x0000#16 then ⟨.responseCrcError, .crcMismatch, 0x00⟩
      else if statusByte fr = 0x00 then ⟨.protocol, .none, 0x00⟩
      else if len.toNat < 7 then ⟨.responseCrcError, .noCodeByte, 0x00⟩
      else if errorCodeByte fr ∈ resultCodes then ⟨.protocol, .none, errorCodeByte fr⟩
      else ⟨.unknownCode, .none, errorCodeByte fr⟩

/-- The result code a buffer's response carries: 0x00 where an intact response has status 0, its error-code byte where
the status is not 0 and the frame holds that byte before its CRC (R72, R73, R74). -/
def carriedCode (buf : List Byte) : Option Byte :=
  match buf with
  | [] => none
  | len :: _ =>
    let fr := buf.take len.toNat
    if 5 ≤ len.toNat && len.toNat ≤ buf.length && crc16 fr == 0x0000#16 then
      if statusByte fr = 0x00 then some 0x00
      else if 7 ≤ len.toNat then some (errorCodeByte fr) else none
    else none

end Sys2Proof.Machine
end

