-- ==== Sys2Proof/WellFormed.lean ====
section
/-! DEFINITION. Which instructions have an encoding of their own. -/

namespace Sys2Proof

/-- A parameter with a wire encoding: a supported tag (R64) and a value in its range (R81). -/
def Param.valid (p : Param) : Bool :=
  (p.tag == 0x01#8 && p.value.toNat ≤ 0xFF) || (p.tag == 0x02#8 && p.value.toNat ≤ 0xFFFF) || p.tag == 0x03#8

/-- The function codes of the consumer calls (R78). -/
def facadeCodes : List (BitVec 12) := [0x010#12, 0x011#12, 0x021#12, 0x031#12, 0x041#12, 0x051#12]

/-- The command word of a consumer call: one of its function codes with count 1 (R78). These words are the FC_ rows'
(log entry 5). -/
def isFacadeWord (fc : BitVec 12) (n : BitVec 4) : Bool := facadeCodes.contains fc && n == 1#4

/-- The checks of an instruction: a CMDWORD word is no FC_ row's (log entry 5); a request frame has at most 15
parameters (R69), each valid; a response frame has 5 to 255 bytes (R71, R73), so 2 to 252 bytes of payload. -/
def Instr.wellFormed : Instr → Bool
  | .cmdword fc n => !isFacadeWord fc n
  | .requestFrame _ ps => ps.length ≤ 15 && ps.all Param.valid
  | .responseFrame payload => 2 ≤ payload.length && payload.length ≤ 252
  | .nop | .encode | .merge | .build | .checksum | .verify | .classify | .execute
  | .paramUint8 _ | .paramUint16 _ | .paramUint32 _
  | .pairUint8Uint8 _ _ | .pairUint8Uint16 _ _ | .pairUint8Uint32 _ _
  | .pairUint16Uint8 _ _ | .pairUint16Uint16 _ _ | .pairUint16Uint32 _ _
  | .pairUint32Uint8 _ _ | .pairUint32Uint16 _ _ | .pairUint32Uint32 _ _
  | .fc010 | .fc011 | .fc021 | .fc031 | .fc041 | .fc051
  | .noError | .crcError | .methodError | .parametersError | .tooEarlyError | .timeoutError
  | .undefinedError | .redefinedError | .genericError => true

end Sys2Proof
end

