-- ==== Sys2Proof/Decode.lean ====
section
/-! DEFINITION. The decoder, total on any bits, and the encoder. An instruction's bits stand in one of six places, and the
same bits mean different things in different places (log entry 3): a host write to CMD (R23, R76), the command word at
frame bytes 1-2 (R69), a group of the parameter area (R66, R67, R68), a request frame (R70), a response frame (R71), and
the error-code byte of a response (R72, R74). -/

namespace Sys2Proof

open Machine

/-- An instruction's bits, in the place where they stand. -/
inductive Code where
  | cmd (w : Word)
  | commandWord (w : BitVec 16)
  | group (bytes : List Byte)
  | request (bytes : List Byte)
  | response (bytes : List Byte)
  | resultCode (b : Byte)
deriving DecidableEq, Repr

/-- Why bits are no instruction. -/
inductive Reject where
  | emptyInput          -- no byte to read
  | unknownHeader       -- a header byte of no lone parameter and no pair (R66, R67)
  | truncatedGroup      -- value bytes are missing behind a header
  | groupShape          -- a pair where a lone parameter is due, or the reverse (R68)
  | lengthTooSmall      -- a frame shorter than 5 bytes (R73, R102)
  | lengthMismatch      -- a length byte that is not the frame's length (R70, R71)
  | crcMismatch         -- a frame with a non-zero residual (R71, R103)
  | trailingBytes       -- bytes behind the last group
  | unknownResultCode   -- an error-code byte outside the taxonomy (R74)
deriving DecidableEq, Repr

/-! ### Byte order helpers (R49, R65) -/

/-- The two bytes of a 16-bit value, most significant first. -/
def be16 (v : BitVec 16) : List Byte := [v.extractLsb' 8 8, v.extractLsb' 0 8]

/-- The four bytes of a 32-bit value, most significant first. -/
def be32 (v : BitVec 32) : List Byte :=
  [v.extractLsb' 24 8, v.extractLsb' 16 8, v.extractLsb' 8 8, v.extractLsb' 0 8]

/-! ### Parameters and groups -/

/-- The bytes of a lone parameter or a merged pair, from the tables of R66 and R67; no other row is a group. -/
def groupBytes : Instr → List Byte
  | .paramUint8 v => [0x10, v]
  | .paramUint16 v => 0x20 :: be16 v
  | .paramUint32 v => 0x30 :: be32 v
  | .pairUint8Uint8 v1 v2 => [0x11, v1, v2]
  | .pairUint8Uint16 v1 v2 => 0x12 :: v1 :: be16 v2
  | .pairUint8Uint32 v1 v2 => 0x13 :: v1 :: be32 v2
  | .pairUint16Uint8 v1 v2 => 0x21 :: (be16 v1 ++ [v2])
  | .pairUint16Uint16 v1 v2 => 0x22 :: (be16 v1 ++ be16 v2)
  | .pairUint16Uint32 v1 v2 => 0x23 :: (be16 v1 ++ be32 v2)
  | .pairUint32Uint8 v1 v2 => 0x31 :: (be32 v1 ++ [v2])
  | .pairUint32Uint16 v1 v2 => 0x32 :: (be32 v1 ++ be16 v2)
  | .pairUint32Uint32 v1 v2 => 0x33 :: (be32 v1 ++ be32 v2)
  | .nop | .encode | .merge | .build | .checksum | .verify | .classify | .execute
  | .cmdword _ _ | .requestFrame _ _ | .responseFrame _
  | .fc010 | .fc011 | .fc021 | .fc031 | .fc041 | .fc051
  | .noError | .crcError | .methodError | .parametersError | .tooEarlyError | .timeoutError
  | .undefinedError | .redefinedError | .genericError => []

/-- The lone-parameter row of a valid parameter (R66). -/
def loneRow (p : Param) : Option Instr :=
  match typeOfTag p.tag with
  | some .uint8 => some (.paramUint8 (p.value.setWidth 8))
  | some .uint16 => some (.paramUint16 (p.value.setWidth 16))
  | some .uint32 => some (.paramUint32 p.value)
  | none => none

/-- The pair row of two valid parameters (R67). -/
def pairRow (p q : Param) : Option Instr :=
  match typeOfTag p.tag, typeOfTag q.tag with
  | some .uint8, some .uint8 => some (.pairUint8Uint8 (p.value.setWidth 8) (q.value.setWidth 8))
  | some .uint8, some .uint16 => some (.pairUint8Uint16 (p.value.setWidth 8) (q.value.setWidth 16))
  | some .uint8, some .uint32 => some (.pairUint8Uint32 (p.value.setWidth 8) q.value)
  | some .uint16, some .uint8 => some (.pairUint16Uint8 (p.value.setWidth 16) (q.value.setWidth 8))
  | some .uint16, some .uint16 => some (.pairUint16Uint16 (p.value.setWidth 16) (q.value.setWidth 16))
  | some .uint16, some .uint32 => some (.pairUint16Uint32 (p.value.setWidth 16) q.value)
  | some .uint32, some .uint8 => some (.pairUint32Uint8 p.value (q.value.setWidth 8))
  | some .uint32, some .uint16 => some (.pairUint32Uint16 p.value (q.value.setWidth 16))
  | some .uint32, some .uint32 => some (.pairUint32Uint32 p.value q.value)
  | _, _ => none

/-- The parameters a group row carries, first one first. -/
def rowParams : Instr → List Param
  | .paramUint8 v => [⟨0x01, v.setWidth 32⟩]
  | .paramUint16 v => [⟨0x02, v.setWidth 32⟩]
  | .paramUint32 v => [⟨0x03, v⟩]
  | .pairUint8Uint8 v1 v2 => [⟨0x01, v1.setWidth 32⟩, ⟨0x01, v2.setWidth 32⟩]
  | .pairUint8Uint16 v1 v2 => [⟨0x01, v1.setWidth 32⟩, ⟨0x02, v2.setWidth 32⟩]
  | .pairUint8Uint32 v1 v2 => [⟨0x01, v1.setWidth 32⟩, ⟨0x03, v2⟩]
  | .pairUint16Uint8 v1 v2 => [⟨0x02, v1.setWidth 32⟩, ⟨0x01, v2.setWidth 32⟩]
  | .pairUint16Uint16 v1 v2 => [⟨0x02, v1.setWidth 32⟩, ⟨0x02, v2.setWidth 32⟩]
  | .pairUint16Uint32 v1 v2 => [⟨0x02, v1.setWidth 32⟩, ⟨0x03, v2⟩]
  | .pairUint32Uint8 v1 v2 => [⟨0x03, v1⟩, ⟨0x01, v2.setWidth 32⟩]
  | .pairUint32Uint16 v1 v2 => [⟨0x03, v1⟩, ⟨0x02, v2.setWidth 32⟩]
  | .pairUint32Uint32 v1 v2 => [⟨0x03, v1⟩, ⟨0x03, v2⟩]
  | .requestFrame _ ps => ps
  | .nop | .encode | .merge | .build | .checksum | .verify | .classify | .execute
  | .cmdword _ _ | .responseFrame _
  | .fc010 | .fc011 | .fc021 | .fc031 | .fc041 | .fc051
  | .noError | .crcError | .methodError | .parametersError | .tooEarlyError | .timeoutError
  | .undefinedError | .redefinedError | .genericError => []

/-- The packed parameter area of a request frame: pair groups, then a lone group where one parameter is left (R68,
R70). -/
def areaBytes : List Param → List Byte
  | [] => []
  | [p] => (loneRow p).elim [] groupBytes
  | p :: q :: rest => (pairRow p q).elim [] groupBytes ++ areaBytes rest

/-- A request frame: length byte, command word, parameter area, CRC (R70). -/
def requestBytes (fc : BitVec 12) (ps : List Param) : List Byte :=
  withCrc (BitVec.ofNat 8 (1 + 2 + (areaBytes ps).length + 2) :: (be16 (fc ++ BitVec.ofNat 4 ps.length) ++ areaBytes ps))

/-- A response frame: length byte, payload, CRC (R71). -/
def responseBytes (payload : List Byte) : List Byte :=
  withCrc (BitVec.ofNat 8 (1 + payload.length + 2) :: payload)

/-! ### Decoding -/

/-- The operation a word written to CMD starts: bits [2:0]; bits [31:3] are ignored (R23, R76). -/
def decodeCmd (w : Word) : Instr :=
  match Op.ofCode (w.extractLsb' 0 3) with
  | .nop => .nop | .encode => .encode | .merge => .merge | .build => .build
  | .checksum => .checksum | .verify => .verify | .classify => .classify | .execute => .execute

/-- The row of a command word: an FC_ row where the word is a consumer call's, else CMDWORD (R69, R78; log entry 5). -/
def decodeCommandWord (w : BitVec 16) : Instr :=
  if w = 0x0101#16 then .fc010 else if w = 0x0111#16 then .fc011 else if w = 0x0211#16 then .fc021
  else if w = 0x0311#16 then .fc031 else if w = 0x0411#16 then .fc041 else if w = 0x0511#16 then .fc051
  else .cmdword (w.extractLsb' 4 12) (w.extractLsb' 0 4)

/-- The row of an error-code byte (R74). -/
def decodeResultCode (b : Byte) : Except Reject Instr :=
  if b = 0x00#8 then .ok .noError else if b = 0x01#8 then .ok .crcError else if b = 0x02#8 then .ok .methodError
  else if b = 0x03#8 then .ok .parametersError else if b = 0x04#8 then .ok .tooEarlyError
  else if b = 0x05#8 then .ok .timeoutError else if b = 0x06#8 then .ok .undefinedError
  else if b = 0x07#8 then .ok .redefinedError else if b = 0xFF#8 then .ok .genericError
  else .error .unknownResultCode

/-- The value of a type at the head of a byte sequence, big-endian, and the bytes behind it (R65). -/
def takeValue (ty : IntType) (bs : List Byte) : Option (Word × List Byte) :=
  match ty, bs with
  | .uint8, a :: rest => some (a.setWidth 32, rest)
  | .uint16, a :: b :: rest => some ((a ++ b).setWidth 32, rest)
  | .uint32, a :: b :: c :: d :: rest => some (a ++ b ++ c ++ d, rest)
  | _, _ => none

/-- The type a header nibble names (R66, R67). -/
def nibbleType (n : BitVec 4) : Option IntType := typeOfTag (n.setWidth 8)

/-- The first group of a parameter area and the bytes behind it: the header's high nibble is the first tag, its low
nibble the second tag, or 0 for a lone parameter (R66, R67, R68). -/
def decodeGroup (bs : List Byte) : Except Reject (Instr × List Byte) :=
  match bs with
  | [] => .error .emptyInput
  | h :: rest =>
    match nibbleType (h.extractLsb' 4 4) with
    | none => .error .unknownHeader
    | some t1 =>
      if h.extractLsb' 0 4 = 0#4 then
        match takeValue t1 rest with
        | none => .error .truncatedGroup
        | some (v1, rest1) =>
          match loneRow ⟨tagOf t1, v1⟩ with
          | some i => .ok (i, rest1)
          | none => .error .unknownHeader
      else
        match nibbleType (h.extractLsb' 0 4) with
        | none => .error .unknownHeader
        | some t2 =>
          match takeValue t1 rest with
          | none => .error .truncatedGroup
          | some (v1, rest1) =>
            match takeValue t2 rest1 with
            | none => .error .truncatedGroup
            | some (v2, rest2) =>
              match pairRow ⟨tagOf t1, v1⟩ ⟨tagOf t2, v2⟩ with
              | some i => .ok (i, rest2)
              | none => .error .unknownHeader

/-- The parameters of an area that holds `n` of them: ⌊n/2⌋ pair groups, then a lone group if n is odd (R68). -/
def decodeArea : Nat → List Byte → Except Reject (List Param)
  | 0, [] => .ok []
  | 0, _ :: _ => .error .trailingBytes
  | 1, bs =>
    match decodeGroup bs with
    | .error e => .error e
    | .ok (i, rest) =>
      match rowParams i, rest with
      | [p], [] => .ok [p]
      | [_], _ :: _ => .error .trailingBytes
      | _, _ => .error .groupShape
  | n + 2, bs =>
    match decodeGroup bs with
    | .error e => .error e
    | .ok (i, rest) =>
      match rowParams i with
      | [p, q] =>
        match decodeArea n rest with
        | .error e => .error e
        | .ok ps => .ok (p :: q :: ps)
      | _ => .error .groupShape

/-- The checks both frames share: the length byte is the frame's length, at least 5, and the residual is 0 (R70, R71,
R73, R93). -/
def checkFrame (bs : List Byte) : Except Reject Unit :=
  match bs with
  | [] => .error .emptyInput
  | len :: _ =>
    if len.toNat < 5 then .error .lengthTooSmall
    else if bs.length ≠ len.toNat then .error .lengthMismatch
    else if crc16 bs ≠ 0x0000#16 then .error .crcMismatch
    else .ok ()

/-- A request frame (R70). -/
def decodeRequest (bs : List Byte) : Except Reject Instr :=
  match checkFrame bs with
  | .error e => .error e
  | .ok () =>
    let cw : BitVec 16 := bs.getD 1 0 ++ bs.getD 2 0
    match decodeArea (cw.extractLsb' 0 4).toNat ((bs.take (bs.length - 2)).drop 3) with
    | .error e => .error e
    | .ok ps => .ok (.requestFrame (cw.extractLsb' 4 12) ps)

/-- A response frame (R71). -/
def decodeResponse (bs : List Byte) : Except Reject Instr :=
  match checkFrame bs with
  | .error e => .error e
  | .ok () => .ok (.responseFrame ((bs.take (bs.length - 2)).drop 1))

/-- The decoder. -/
def decode : Code → Except Reject Instr
  | .cmd w => .ok (decodeCmd w)
  | .commandWord w => .ok (decodeCommandWord w)
  | .group bs =>
    match decodeGroup bs with
    | .error e => .error e
    | .ok (i, []) => .ok i
    | .ok (_, _ :: _) => .error .trailingBytes
  | .request bs => decodeRequest bs
  | .response bs => decodeResponse bs
  | .resultCode b => decodeResultCode b

/-! ### Encoding -/

/-- The encoder: where an instruction's bits stand, and what they are (R66, R67, R69, R70, R71, R74, R76, R78). -/
def encode : Instr → Code
  | .nop => .cmd 0x00000000
  | .encode => .cmd 0x00000001
  | .merge => .cmd 0x00000002
  | .build => .cmd 0x00000003
  | .checksum => .cmd 0x00000004
  | .verify => .cmd 0x00000005
  | .classify => .cmd 0x00000006
  | .execute => .cmd 0x00000007
  | .paramUint8 v => .group (groupBytes (.paramUint8 v))
  | .paramUint16 v => .group (groupBytes (.paramUint16 v))
  | .paramUint32 v => .group (groupBytes (.paramUint32 v))
  | .pairUint8Uint8 v1 v2 => .group (groupBytes (.pairUint8Uint8 v1 v2))
  | .pairUint8Uint16 v1 v2 => .group (groupBytes (.pairUint8Uint16 v1 v2))
  | .pairUint8Uint32 v1 v2 => .group (groupBytes (.pairUint8Uint32 v1 v2))
  | .pairUint16Uint8 v1 v2 => .group (groupBytes (.pairUint16Uint8 v1 v2))
  | .pairUint16Uint16 v1 v2 => .group (groupBytes (.pairUint16Uint16 v1 v2))
  | .pairUint16Uint32 v1 v2 => .group (groupBytes (.pairUint16Uint32 v1 v2))
  | .pairUint32Uint8 v1 v2 => .group (groupBytes (.pairUint32Uint8 v1 v2))
  | .pairUint32Uint16 v1 v2 => .group (groupBytes (.pairUint32Uint16 v1 v2))
  | .pairUint32Uint32 v1 v2 => .group (groupBytes (.pairUint32Uint32 v1 v2))
  | .cmdword fc n => .commandWord (fc ++ n)
  | .requestFrame fc ps => .request (requestBytes fc ps)
  | .responseFrame payload => .response (responseBytes payload)
  | .fc010 => .commandWord 0x0101
  | .fc011 => .commandWord 0x0111
  | .fc021 => .commandWord 0x0211
  | .fc031 => .commandWord 0x0311
  | .fc041 => .commandWord 0x0411
  | .fc051 => .commandWord 0x0511
  | .noError => .resultCode 0x00
  | .crcError => .resultCode 0x01
  | .methodError => .resultCode 0x02
  | .parametersError => .resultCode 0x03
  | .tooEarlyError => .resultCode 0x04
  | .timeoutError => .resultCode 0x05
  | .undefinedError => .resultCode 0x06
  | .redefinedError => .resultCode 0x07
  | .genericError => .resultCode 0xFF

/-! ### The opcode table's numbering -/

/-- The `n` bytes of a number, the byte of the lowest bits first. -/
def bytesOfNat : Nat → Nat → List Byte
  | 0, _ => []
  | n + 1, w => BitVec.ofNat 8 w :: bytesOfNat n (w / 256)

/-- The longest instruction a header byte can start: nine bytes, a pair of UINT32 (R67). -/
def longestGroup : Nat := 9

/-- A byte on its own: a result code or a group's header byte with value bytes of zeros; no byte is both (log entry
14). -/
def decodeTableByte (b : Byte) : Option Instr :=
  match decodeResultCode b with
  | .ok i => some i
  | .error _ =>
    match decodeGroup (b :: List.replicate (longestGroup - 1) 0) with
    | .ok (i, _) => some i
    | .error _ => none

/-- A whole frame: a request frame, or else a response frame (log entry 14). -/
def decodeTableFrame (bs : List Byte) : Option Instr :=
  match decodeRequest bs with
  | .ok i => some i
  | .error _ =>
    match decodeResponse bs with
    | .ok i => some i
    | .error _ => none

/-- The instruction of an opcode-table row's bits: 32 bits are a word written to CMD, 16 a command word, 8 a header or
result byte, and any other whole number of bytes a frame (log entry 14). -/
def decodeTableWord (nbits w : Nat) : Option Instr :=
  if nbits = 32 then some (decodeCmd (BitVec.ofNat 32 w))
  else if nbits = 16 then some (decodeCommandWord (BitVec.ofNat 16 w))
  else if nbits = 8 then decodeTableByte (BitVec.ofNat 8 w)
  else decodeTableFrame (bytesOfNat (nbits / 8) w)

end Sys2Proof
end

