-- ==== Sys2Proof/Machine/State.lean ====
section
/-! DEFINITION. The state of the block and of its ports, as plain data; its value after reset (R39, R47); and the reasons
a step could stop, of which the spec gives none (R22, R133). -/

namespace Sys2Proof.Machine

/-- Bytes of a buffer by index, in one canonical form: indices strictly rising. An index that is not listed has no value
any rule fixes, and reads as a free value (R38; log entry 8). -/
abbrev Memory := List Host.Cell

/-- The input ports in one cycle (R17). -/
structure Ports where
  rst      : Bool
  busSel   : Bool
  busWe    : Bool
  busAddr  : BitVec 12
  busWdata : Word
  txReady  : Bool
  rxValid  : Bool
  rxData   : Byte
deriving DecidableEq, Repr

/-- A cycle in which nothing comes in. -/
def Ports.quiet : Ports := ⟨false, false, false, 0, 0, false, false, 0⟩

/-- The state. INVENTORY.md names the rule of each field. -/
@[ext]
structure State where
  -- the sequencer and its hidden registers (R39)
  seq       : SeqState
  op        : Op
  txIdx     : BitVec 7
  rxN       : BitVec 8
  rxLen     : BitVec 8
  timer     : BitVec 32
  lat       : Nat
  -- STATUS (R25)
  done      : Bool
  rejected  : Bool
  verifyOk  : Bool
  strayRx   : Bool
  outcome   : OutcomeCode
  preErr    : PreErr
  failCause : FailCause
  errSlot   : BitVec 4
  result    : Byte
  -- the other registers (R24, R26-R32)
  ie        : Bool
  func      : BitVec 12
  pcount    : BitVec 8
  timeout   : Word
  crcExpect : BitVec 16
  crcResult : BitVec 16
  txLen     : BitVec 8
  rxCount   : BitVec 8
  -- the slot file and the frame buffers (R33, R36, R37)
  slots     : Vector Param 15
  txbuf     : Memory
  rxbuf     : Memory
  -- the model's own: the ports (R17), what the peer has taken (R19), and the counters of free values
  ports     : Ports
  inputs    : List Ports
  rdata     : Option Word
  taken     : List Byte
  opDraws   : Nat
  hostDraws : Nat
  idleDraws : Nat
deriving DecidableEq, Repr

/-- The block raises no fault: no access raises a bus error (R22), there is no trap (R133), and an error is an outcome
recorded at completion (R128). So no constructor, which is safe: no step stops where the block goes on (log entry 11). -/
inductive Fault where
deriving DecidableEq, Repr

/-- The reasons a step could be refused. -/
inductive Refusal where
  /-- Raised by an arm of exec whose instruction has no meaning; no arm is left so. Safe: a step stops where the block
  goes on. -/
  | notModelled (mnemonic : String)
deriving DecidableEq, Repr

/-- The machine right after reset (R47), the ports quiet and no input pending (log entries 2, 6, 7, 8, 9). -/
def State.reset : State where
  seq       := .idle
  op        := .nop
  txIdx     := 0
  rxN       := 0
  rxLen     := 0
  timer     := 0
  lat       := 0
  done      := false
  rejected  := false
  verifyOk  := false
  strayRx   := false
  outcome   := .none
  preErr    := .none
  failCause := .none
  errSlot   := 0
  result    := 0x00
  ie        := false
  func      := 0x000
  pcount    := 0
  timeout   := Config.timeoutReset
  crcExpect := 0x0000
  crcResult := 0x0000
  txLen     := 0
  rxCount   := 0
  slots     := Vector.replicate 15 ⟨0x00, 0x00000000⟩
  txbuf     := []
  rxbuf     := []
  ports     := Ports.quiet
  inputs    := []
  rdata     := none
  taken     := []
  opDraws   := 0
  hostDraws := 0
  idleDraws := 0

end Sys2Proof.Machine
end

