-- ==== Sys2Proof/Machine/Flags.lean ====
section
/-! DEFINITION. What the block shows of its state: the STATUS word (R25) and the output lines (R19, R131). -/

namespace Sys2Proof.Machine

/-- A one-bit field. -/
def bit (b : Bool) : BitVec 1 := BitVec.ofBool b

/-- STATUS.BUSY: the sequencer is not in IDLE (R41). -/
def State.busy (s : State) : Bool := s.seq != .idle

/-- The STATUS word, its fields in descending bit order; the reserved bits 19, 15:14 and 11 are 0 (R25). -/
def State.statusWord (s : State) : Word :=
  s.result ++ s.errSlot ++ 0#1 ++ s.failCause.code ++ 0#2 ++ s.preErr.code ++ 0#1 ++ s.outcome.code ++ s.seq.code ++
    bit s.strayRx ++ bit s.verifyOk ++ bit s.rejected ++ bit s.done ++ bit s.busy

/-- The interrupt line, a level (R131). -/
def State.irq (s : State) : Bool := s.done && s.ie

/-- `tx_valid` (R19). -/
def State.txValid (s : State) : Bool := s.seq == .frameSent

end Sys2Proof.Machine
end

