-- ==== Sys2Proof/Machine/Operands.lean ====
section
/-! DEFINITION. How the block reads its operands: slots, buffer bytes, the read window, and the host's register map
(R21, R33, R36, R37, R38, R53, R110). -/

namespace Sys2Proof.Machine

/-! ### Buffers -/

/-- The byte at an index, where one was written since reset. -/
def Memory.byte? : Memory → Nat → Option Byte
  | [], _ => none
  | (j, b) :: rest, i => if i = j then some b else Memory.byte? rest i

/-- The byte at an index, or the `d`-th free byte where none was written (R38). -/
def Memory.byteOr (m : Memory) (i d : Nat) : Byte := (Memory.byte? m i).getD (Config.freeByte d)

/-- The bytes at indices 0 to n-1 as an operation reads them, once each; the byte at index i is the (d+i)-th free byte
where none was written (R38; log entry 8). -/
def Memory.snapshot (m : Memory) (n d : Nat) : List Byte := (List.range n).map fun i => Memory.byteOr m i (d + i)

/-- RXBUF[0..RX_COUNT), the input of CHECKSUM, VERIFY and CLASSIFY (R32, R96, R97, R121). -/
def State.hostBytes (s : State) : List Byte := Memory.snapshot s.rxbuf s.rxCount.toNat s.opDraws

/-- RXBUF[0..rx_n), the response EXECUTE has received (R115). -/
def State.received (s : State) : List Byte := Memory.snapshot s.rxbuf s.rxN.toNat s.opDraws

/-- TXBUF[tx_idx], the byte offered in FRAME_SENT (R19, R112). -/
def State.offered (s : State) : Byte := Memory.byteOr s.txbuf s.txIdx.toNat s.opDraws

/-- `tx_data`: the byte offered while `tx_valid` = 1 (R19). While `tx_valid` = 0 the spec leaves it open; DESIGN CHOICE:
a free byte, a fresh one in each cycle, from a stream nothing else draws from (log entry 9). -/
def State.txData (s : State) : Byte := if s.txValid then s.offered else Config.freeTxData s.idleDraws

/-! ### Registers an operation reads -/

/-- Slot i (R33); there is no slot beyond 14. -/
def State.slot (s : State) (i : Nat) : Param := s.slots.toList.getD i ⟨0, 0⟩

/-- The read window W = max(TIMEOUT.CYCLES, 1) (R110). -/
def State.window (s : State) : Word := if s.timeout = 0 then 1 else s.timeout

/-- The request frame of the request registers, or the first precondition they fail (R98). -/
def State.builtFrame (s : State) : Except Precondition (List Byte) := build s.func s.pcount s.slots.toList

/-! ### Which instruction the block is at -/

/-- The cycle of COMPUTE in which operation `o` does its work: LOCAL_LATENCY has elapsed (R117). -/
def State.performing (s : State) (o : Op) : Bool := s.seq == .compute && s.op == o && s.lat == 0

/-- The cycle in which the frame-builder runs, for BUILD or EXECUTE, on this command word's function code and count
(R69, R98, R117). -/
def State.buildingFor (s : State) (fc : BitVec 12) (n : BitVec 8) : Bool :=
  (s.performing .build || s.performing .execute) && s.func == fc && s.pcount == n

/-- The bytes the validator classifies in this cycle, where it does: CLASSIFY's in COMPUTE, EXECUTE's in VALIDATED
(R115, R121). -/
def State.underTest (s : State) : Option (List Byte) :=
  if s.performing .classify then some s.hostBytes
  else if s.seq == .validated && s.op == .execute && s.lat == 0 then some s.received
  else none

/-! ### The host's register map -/

/-- A register of the host's space (R21). -/
inductive HostReg where
  | cmd | ctrl | status | func | pcount | timeout | crcExpect | crcResult | txLen | rxCount
  | ptype (i : Nat) | pvalue (i : Nat) | txbuf (i : Nat) | rxbuf (i : Nat)
  | reserved
deriving DecidableEq, Repr

/-- The register at a byte offset; bits [1:0] of the offset are ignored, and an offset of no register is reserved (R21,
R22, R53). -/
def regAt (addr : BitVec 12) : HostReg :=
  let o := (addr &&& 0xFFC#12).toNat
  if o = 0x000 then .cmd
  else if o = 0x004 then .ctrl
  else if o = 0x008 then .status
  else if o = 0x00C then .func
  else if o = 0x010 then .pcount
  else if o = 0x014 then .timeout
  else if o = 0x018 then .crcExpect
  else if o = 0x01C then .crcResult
  else if o = 0x020 then .txLen
  else if o = 0x024 then .rxCount
  else if 0x040 ≤ o ∧ o < 0x0B8 then
    if (o - 0x040) % 8 = 0 then .ptype ((o - 0x040) / 8) else .pvalue ((o - 0x040) / 8)
  else if 0x400 ≤ o ∧ o < 0x524 then .txbuf ((o - 0x400) / 4)
  else if 0x800 ≤ o ∧ o < 0xBFC then .rxbuf ((o - 0x800) / 4)
  else .reserved

/-- The offset of a register (R21); of a reserved one, the first reserved offset. -/
def offsetOf : HostReg → BitVec 12
  | .cmd => 0x000 | .ctrl => 0x004 | .status => 0x008 | .func => 0x00C | .pcount => 0x010 | .timeout => 0x014
  | .crcExpect => 0x018 | .crcResult => 0x01C | .txLen => 0x020 | .rxCount => 0x024
  | .ptype i => BitVec.ofNat 12 (0x040 + 8 * i)
  | .pvalue i => BitVec.ofNat 12 (0x044 + 8 * i)
  | .txbuf i => BitVec.ofNat 12 (0x400 + 4 * i)
  | .rxbuf i => BitVec.ofNat 12 (0x800 + 4 * i)
  | .reserved => 0x028

end Sys2Proof.Machine
end

