-- ==== Sys2Proof/Machine/Ops.lean ====
section
/-! DEFINITION. The named operations over buffers and registers; the acceptance, the cycles of COMPUTE and the completion
all operations share (R42, R117, R128); and raising a precondition error with what the host does about it (R126,
R133). -/

namespace Sys2Proof.Machine

/-! ### Buffers -/

/-- The canonical form: indices strictly rising and below the buffer's size. -/
def Memory.wf (size : Nat) : Memory → Bool
  | [] => true
  | [(i, _)] => i < size
  | (i, _) :: (j, b) :: rest => i < j && Memory.wf size ((j, b) :: rest)

/-- Lists a byte at an index, in the canonical form. -/
def Memory.insert (i : Nat) (b : Byte) : Memory → Memory
  | [] => [(i, b)]
  | (j, c) :: rest =>
    if i < j then (i, b) :: (j, c) :: rest
    else if i = j then (i, b) :: rest
    else (j, c) :: Memory.insert i b rest

/-- Writes a byte of a buffer of `size` bytes; there is no byte at an index beyond (log entry 10). -/
def Memory.write (size i : Nat) (b : Byte) (m : Memory) : Memory := if i < size then Memory.insert i b m else m

/-- Writes consecutive bytes from index `i` on (R104). -/
def Memory.writeAll (size : Nat) : Nat → List Byte → Memory → Memory
  | _, [], m => m
  | i, b :: bs, m => Memory.writeAll size (i + 1) bs (Memory.write size i b m)

/-- TXBUF[0..len(bytes)) <- bytes and TX_LEN <- len(bytes); higher bytes keep their values (R36, R104). -/
def writeTx (bytes : List Byte) (s : State) : State :=
  { s with txbuf := Memory.writeAll Config.txbufSize 0 bytes s.txbuf, txLen := BitVec.ofNat 8 bytes.length }

/-- RXBUF[i] <- b (R37). -/
def writeRx (i : Nat) (b : Byte) (s : State) : State :=
  { s with rxbuf := Memory.write Config.rxbufSize i b s.rxbuf }

/-- Slot i <- p (R33). -/
def setSlot (i : Nat) (p : Param) (s : State) : State := { s with slots := s.slots.setIfInBounds i p }

/-- Counts the free bytes an operation's read of `n` buffer bytes may have drawn (log entry 8). -/
def drew (n : Nat) (s : State) : State := { s with opDraws := s.opDraws + n }

/-! ### Acceptance, the cycles of COMPUTE, completion -/

/-- A CMD write with BUSY = 0 is accepted (R42); LOCAL_LATENCY cycles of COMPUTE begin (R111). -/
def accept (o : Op) (s : State) : State :=
  { s with
    op := o, seq := .compute, lat := Config.localLatency - 1
    done := false, rejected := false, verifyOk := false, strayRx := false
    outcome := .none, preErr := .none, failCause := .none, errSlot := 0, result := 0x00 }

/-- A cycle of COMPUTE or VALIDATED before the operation's own (R111, R115). -/
def waitCycle (s : State) : State := { s with lat := s.lat - 1 }

/-- An operation completes: BUSY = 0 and DONE = 1, together with the results already written into `s` (R128). -/
def complete (s : State) : State := { s with seq := .idle, done := true }

/-- Completion with STATUS.OUTCOME = NONE (R122). -/
def completeNone (s : State) : State := complete { s with outcome := .none }

/-- Completion with a triple of classify (R107, R115, R121). -/
def conclude (c : Classification) (s : State) : State :=
  complete { s with outcome := c.outcome, failCause := c.failCause, result := c.result }

/-- Completion of an operation whose result is a byte sequence in TXBUF (R87, R88, R104, R105). -/
def produce (bytes : List Byte) (s : State) : State := completeNone (writeTx bytes s)

/-- One cycle of an operation that does all its work in COMPUTE (R117): the acceptance in IDLE, then the waiting cycles,
then `act`. Where another operation is in progress nothing of this one happens ("In every other case the state is
unchanged"; log entry 4). -/
def localCycle (o : Op) (act : State → State) (s : State) : State :=
  match s.seq with
  | .idle => accept o s
  | .compute => if s.op = o then (if s.lat = 0 then act s else waitCycle s) else s
  | .frameSent | .awaitLen | .awaitBody | .validated => s

/-! ### Raising a precondition error, and the host's answer -/

/-- `raise Precondition(code, slot)`: the one way an operation fails before it produces a byte (R125, R126). -/
def raise (e : Precondition) (s : State) : State :=
  complete { s with
    outcome := .precondition, preErr := e.code, errSlot := e.slot
    result := 0x00, failCause := .none, txLen := 0 }

/-- The host clears DONE: a W1C write of STATUS bit 1, the nearest thing to a return from an error (R25, R133). -/
def clearDone (s : State) : State := { s with done := false }

/-! ### The frame-builder's result -/

/-- EXECUTE's frame goes to TXBUF and its transmission begins (R111). -/
def startTransmit (frame : List Byte) (s : State) : State :=
  { writeTx frame s with txIdx := 0, seq := .frameSent }

/-- What becomes of a built frame: BUILD completes with it, EXECUTE starts to transmit it (R105, R111). -/
def emitFrame (frame : List Byte) (s : State) : State :=
  if s.op = .execute then startTransmit frame s else produce frame s

/-! ### The validator's result -/

/-- The result of classifying the bytes under test: EXECUTE also sets RX_COUNT to the bytes received (R115, R121). -/
def concludeTest (c : Classification) (s : State) : State :=
  if s.seq = .validated then conclude c (drew s.rxN.toNat { s with rxCount := s.rxN })
  else conclude c (drew s.rxCount.toNat s)

end Sys2Proof.Machine
end

