-- ==== Sys2Proof/Machine/Builder.lean ====
section
/-! DEFINITION. The frame-builder: BUILD (R105), and what it produces, the command word (R69, R78) and the request frame
(R70). -/

namespace Sys2Proof.Machine

/-- The builder's cycle of work, for BUILD and EXECUTE (R98, R105, R111). -/
def builderWork (s : State) : State :=
  match s.builtFrame with
  | .error e => raise e s
  | .ok frame => emitFrame frame s

/-- BUILD (R105). -/
def execBuild (s : State) : Host.Outcome State Fault Refusal := .next (localCycle .build builderWork s)

/-- The builder puts a command word at frame bytes 1-2 in the cycle in which it runs on FUNC and PCOUNT that hold the
word's two fields; in every other case the state is unchanged. It treats every function code alike (R69, R78, R98, R117;
log entry 4). -/
def commandWordCycle (fc : BitVec 12) (n : BitVec 4) (s : State) : State :=
  if s.buildingFor fc (n.setWidth 8) then
    match build fc (n.setWidth 8) s.slots.toList with
    | .error e => raise e s
    | .ok frame => emitFrame frame s
  else s

/-- CMDWORD (R69). -/
def execCmdword (fc : BitVec 12) (n : BitVec 4) (s : State) : Host.Outcome State Fault Refusal :=
  .next (commandWordCycle fc n s)

/-- FC_010, digital-output set (R78). -/
def execFc010 (s : State) : Host.Outcome State Fault Refusal := .next (commandWordCycle 0x010 1 s)

/-- FC_011, digital-output clear (R78). -/
def execFc011 (s : State) : Host.Outcome State Fault Refusal := .next (commandWordCycle 0x011 1 s)

/-- FC_021, digital-output toggle (R78). -/
def execFc021 (s : State) : Host.Outcome State Fault Refusal := .next (commandWordCycle 0x021 1 s)

/-- FC_031, digital-input rising-edge query (R78). -/
def execFc031 (s : State) : Host.Outcome State Fault Refusal := .next (commandWordCycle 0x031 1 s)

/-- FC_041, digital-input falling-edge query (R78). -/
def execFc041 (s : State) : Host.Outcome State Fault Refusal := .next (commandWordCycle 0x041 1 s)

/-- FC_051, digital-input change query (R78). -/
def execFc051 (s : State) : Host.Outcome State Fault Refusal := .next (commandWordCycle 0x051 1 s)

/-- The builder produces this request frame: it runs on the frame's function code, count and parameters, and the frame is
well formed (R69, R70, R98). -/
def producesFrame (fc : BitVec 12) (ps : List Param) (s : State) : Bool :=
  (Instr.requestFrame fc ps).wellFormed && s.buildingFor fc (BitVec.ofNat 8 ps.length) &&
    s.slots.toList.take ps.length == ps

/-- REQUEST_FRAME: the frame's bytes go to TXBUF; in every other case the state is unchanged (R70, R104, R117; log entry
4). -/
def execRequestFrame (fc : BitVec 12) (ps : List Param) (s : State) : Host.Outcome State Fault Refusal :=
  .next (if producesFrame fc ps s then emitFrame (requestBytes fc ps) s else s)

end Sys2Proof.Machine
end

