-- ==== Sys2Proof/Machine/Crc.lean ====
section
/-! DEFINITION. The crc16-engine's operations: CHECKSUM (R96) and VERIFY (R97). -/

namespace Sys2Proof.Machine

/-- CHECKSUM's cycle of work, on RXBUF[0..RX_COUNT) (R96). -/
def checksumWork (s : State) : State :=
  completeNone (drew s.rxCount.toNat { s with crcResult := crc16 s.hostBytes })

/-- CHECKSUM (R96). -/
def execChecksum (s : State) : Host.Outcome State Fault Refusal := .next (localCycle .checksum checksumWork s)

/-- VERIFY's cycle of work, on RXBUF[0..RX_COUNT) and CRC_EXPECT (R97). -/
def verifyWork (s : State) : State :=
  completeNone (drew s.rxCount.toNat
    { s with crcResult := crc16 s.hostBytes, verifyOk := crc16 s.hostBytes == s.crcExpect })

/-- VERIFY (R97). -/
def execVerify (s : State) : Host.Outcome State Fault Refusal := .next (localCycle .verify verifyWork s)

end Sys2Proof.Machine
end

