-- ==== Sys2Proof/Machine/Packer.lean ====
section
/-! DEFINITION. The parameter-packer: ENCODE (R87), MERGE (R88), and the groups they produce, the lone parameters of R66
and the merged pairs of R67. -/

namespace Sys2Proof.Machine

/-- ENCODE's cycle of work, on slot 0 (R87). -/
def encodeWork (s : State) : State :=
  match checkParam (s.slot 0) 0 with
  | .error e => raise e s
  | .ok ty => produce (encodeParam ty (s.slot 0).value) s

/-- ENCODE (R87). -/
def execEncode (s : State) : Host.Outcome State Fault Refusal := .next (localCycle .encode encodeWork s)

/-- MERGE's cycle of work, on slots 0 and 1, slot 0 checked first (R88, R127). -/
def mergeWork (s : State) : State :=
  match checkParam (s.slot 0) 0 with
  | .error e => raise e s
  | .ok ty1 =>
    match checkParam (s.slot 1) 1 with
    | .error e => raise e s
    | .ok ty2 => produce (mergeParam (encodeParam ty1 (s.slot 0).value) ty2 (s.slot 1).value) s

/-- MERGE (R88). -/
def execMerge (s : State) : Host.Outcome State Fault Refusal := .next (localCycle .merge mergeWork s)

/-- The packer produces a group in the cycle in which ENCODE finds the group's one parameter in slot 0, or MERGE its two
in slots 0 and 1; in every other case the state is unchanged (R66, R67, R117; log entry 4). -/
def producesGroup (i : Instr) (s : State) : Bool :=
  match rowParams i with
  | [p] => s.performing .encode && s.slot 0 == p
  | [p, q] => s.performing .merge && s.slot 0 == p && s.slot 1 == q
  | _ => false

/-- The group's bytes go to TXBUF (R66, R67, R104). -/
def groupCycle (i : Instr) (s : State) : State := if producesGroup i s then produce (groupBytes i) s else s

/-- PARAM.UINT8 (R66). -/
def execParamUint8 (v : BitVec 8) (s : State) : Host.Outcome State Fault Refusal := .next (groupCycle (.paramUint8 v) s)

/-- PARAM.UINT16 (R66). -/
def execParamUint16 (v : BitVec 16) (s : State) : Host.Outcome State Fault Refusal := .next (groupCycle (.paramUint16 v) s)

/-- PARAM.UINT32 (R66). -/
def execParamUint32 (v : BitVec 32) (s : State) : Host.Outcome State Fault Refusal := .next (groupCycle (.paramUint32 v) s)

/-- PAIR.UINT8.UINT8 (R67). -/
def execPairUint8Uint8 (v1 : BitVec 8) (v2 : BitVec 8) (s : State) : Host.Outcome State Fault Refusal :=
  .next (groupCycle (.pairUint8Uint8 v1 v2) s)

/-- PAIR.UINT8.UINT16 (R67). -/
def execPairUint8Uint16 (v1 : BitVec 8) (v2 : BitVec 16) (s : State) : Host.Outcome State Fault Refusal :=
  .next (groupCycle (.pairUint8Uint16 v1 v2) s)

/-- PAIR.UINT8.UINT32 (R67). -/
def execPairUint8Uint32 (v1 : BitVec 8) (v2 : BitVec 32) (s : State) : Host.Outcome State Fault Refusal :=
  .next (groupCycle (.pairUint8Uint32 v1 v2) s)

/-- PAIR.UINT16.UINT8 (R67). -/
def execPairUint16Uint8 (v1 : BitVec 16) (v2 : BitVec 8) (s : State) : Host.Outcome State Fault Refusal :=
  .next (groupCycle (.pairUint16Uint8 v1 v2) s)

/-- PAIR.UINT16.UINT16 (R67). -/
def execPairUint16Uint16 (v1 : BitVec 16) (v2 : BitVec 16) (s : State) : Host.Outcome State Fault Refusal :=
  .next (groupCycle (.pairUint16Uint16 v1 v2) s)

/-- PAIR.UINT16.UINT32 (R67). -/
def execPairUint16Uint32 (v1 : BitVec 16) (v2 : BitVec 32) (s : State) : Host.Outcome State Fault Refusal :=
  .next (groupCycle (.pairUint16Uint32 v1 v2) s)

/-- PAIR.UINT32.UINT8 (R67). -/
def execPairUint32Uint8 (v1 : BitVec 32) (v2 : BitVec 8) (s : State) : Host.Outcome State Fault Refusal :=
  .next (groupCycle (.pairUint32Uint8 v1 v2) s)

/-- PAIR.UINT32.UINT16 (R67). -/
def execPairUint32Uint16 (v1 : BitVec 32) (v2 : BitVec 16) (s : State) : Host.Outcome State Fault Refusal :=
  .next (groupCycle (.pairUint32Uint16 v1 v2) s)

/-- PAIR.UINT32.UINT32 (R67). -/
def execPairUint32Uint32 (v1 : BitVec 32) (v2 : BitVec 32) (s : State) : Host.Outcome State Fault Refusal :=
  .next (groupCycle (.pairUint32Uint32 v1 v2) s)

end Sys2Proof.Machine
end

