-- ==== Sys2Proof/Machine/HostBus.lean ====
section
/-! DEFINITION. The ports in one cycle: the host's register reads and writes (R18-R32, R43, R44), received bytes that are
discarded (R45), and reset (R141). -/

namespace Sys2Proof.Machine

/-! ### The cycle's inputs -/

/-- The next cycle begins: its port inputs are taken from `inputs`, quiet ones where none is left (log entry 2); what an
idle `tx_data` shows next is a fresh free byte (log entry 9). -/
def State.latch (s : State) : State :=
  match s.inputs with
  | [] => { s with ports := Ports.quiet, rdata := none, idleDraws := s.idleDraws + 1 }
  | p :: rest => { s with ports := p, inputs := rest, rdata := none, idleDraws := s.idleDraws + 1 }

/-- The host reads a register in this cycle (R17). -/
def Ports.reads (p : Ports) : Bool := p.busSel && !p.busWe

/-- The host writes a register in this cycle (R17). -/
def Ports.writes (p : Ports) : Bool := p.busSel && p.busWe

/-- The host writes CMD in this cycle (R23). -/
def Ports.writesCmd (p : Ports) : Bool := p.writes && regAt p.busAddr == .cmd

/-! ### Reads -/

/-- A register of results: unspecified while BUSY (R44; log entry 9). -/
def State.resultWord (s : State) (w : Word) : Word := if s.busy then Config.freeWord s.hostDraws else w

/-- A buffer byte as a word: bits [31:8] are 0; unspecified while BUSY (R44), the byte a free one where none was written
since reset (R36, R37, R38). -/
def State.bufferWord (s : State) (m : Memory) (i : Nat) : Word :=
  s.resultWord (((Memory.byte? m i).getD ((Config.freeWord s.hostDraws).extractLsb' 0 8)).setWidth 32)

/-- What a read of a register returns, from the state at the start of the cycle (R18, R22-R37). -/
def State.readReg (s : State) : HostReg → Word
  | .cmd => 0
  | .ctrl => (bit s.ie).setWidth 32
  | .status => s.statusWord
  | .func => s.func.setWidth 32
  | .pcount => s.pcount.setWidth 32
  | .timeout => s.timeout
  | .crcExpect => s.crcExpect.setWidth 32
  | .crcResult => s.resultWord (s.crcResult.setWidth 32)
  | .txLen => s.resultWord (s.txLen.setWidth 32)
  | .rxCount => s.resultWord (s.rxCount.setWidth 32)
  | .ptype i => (s.slot i).tag.setWidth 32
  | .pvalue i => (s.slot i).value
  | .txbuf i => s.bufferWord s.txbuf i
  | .rxbuf i => s.bufferWord s.rxbuf i
  | .reserved => 0

/-- The host's read of this cycle, if it makes one (R17, R18, R54). -/
def hostRead (s : State) : State :=
  if s.ports.reads then { s with rdata := some (s.readReg (regAt s.ports.busAddr)), hostDraws := s.hostDraws + 1 } else s

/-! ### Writes -/

/-- A write that has no effect while BUSY (R43). -/
def whenIdle (s t : State) : State := if s.busy then s else t

/-- A write of a register. CMD: with BUSY = 1 it is ignored and sets REJECTED; with BUSY = 0 it is accepted, which is the
effect of the instruction it carries (R42), not of this write. Bits of no field are ignored (R22-R37, R43). -/
def State.writeReg (s : State) (r : HostReg) (v : Word) : State :=
  match r with
  | .cmd => if s.busy then { s with rejected := true } else s
  | .ctrl => { s with ie := v.getLsbD 0 }
  | .status => if v.getLsbD 1 then clearDone s else s
  | .func => whenIdle s { s with func := v.extractLsb' 0 12 }
  | .pcount => whenIdle s { s with pcount := v.extractLsb' 0 8 }
  | .timeout => whenIdle s { s with timeout := v }
  | .crcExpect => whenIdle s { s with crcExpect := v.extractLsb' 0 16 }
  | .crcResult => s
  | .txLen => s
  | .rxCount => whenIdle s { s with rxCount := v.extractLsb' 0 8 }
  | .ptype i => whenIdle s (setSlot i { s.slot i with tag := v.extractLsb' 0 8 } s)
  | .pvalue i => whenIdle s (setSlot i { s.slot i with value := v } s)
  | .txbuf _ => s
  | .rxbuf i => whenIdle s (writeRx i (v.extractLsb' 0 8) s)
  | .reserved => s

/-- The host's write of this cycle, if it makes one (R17, R18). -/
def hostWrite (s : State) : State :=
  if s.ports.writes then s.writeReg (regAt s.ports.busAddr) s.ports.busWdata else s

/-! ### Received bytes outside the read states -/

/-- A byte that arrives outside AWAIT_LEN and AWAIT_BODY is discarded and sets STRAY_RX (R45). -/
def strayByte (s : State) : State :=
  match s.seq with
  | .awaitLen | .awaitBody => s
  | .idle | .compute | .frameSent | .validated => if s.ports.rxValid then { s with strayRx := true } else s

/-- What the ports do in a cycle before the block's own update, which so wins over a host write of the same field (R18,
R132; log entry 15). -/
def portSide (s : State) : State := strayByte (hostWrite (hostRead s))

/-! ### Transmission and reset -/

/-- The peer takes the offered byte where `tx_valid` = 1 and `tx_ready` = 1 (R19). -/
def peerTakes (s : State) : State :=
  if s.txValid && s.ports.txReady then drew 1 { s with taken := s.taken ++ [s.offered] } else s

/-- A cycle with `rst` = 1: every piece of the block's state takes its reset value, a host access has no effect, and a
read returns an unspecified value (R141). What lies outside the block is kept: the peer's bytes (R142), the inputs to
come and the draw counters (log entry 16). -/
def resetCycle (s : State) : State :=
  { State.reset with
    ports := s.ports
    inputs := s.inputs
    taken := (peerTakes s).taken
    opDraws := (peerTakes s).opDraws
    rdata := if s.ports.reads then some (Config.freeWord s.hostDraws) else none
    hostDraws := if s.ports.reads then s.hostDraws + 1 else s.hostDraws
    idleDraws := s.idleDraws }

end Sys2Proof.Machine
end

