-- ==== Sys2Proof/Machine/Validator.lean ====
section
/-! DEFINITION. The sequencer's operations: NOP (R106), CLASSIFY (R121) and EXECUTE (R110-R117, R120); and what the
response-validator parses, the response frame (R71, R72) and the result codes (R74). -/

namespace Sys2Proof.Machine

/-- NOP (R106). -/
def execNop (s : State) : Host.Outcome State Fault Refusal := .next (localCycle .nop completeNone s)

/-- CLASSIFY's cycle of work, on RXBUF[0..RX_COUNT) (R121). -/
def classifyWork (s : State) : State := conclude (classify s.hostBytes) (drew s.rxCount.toNat s)

/-- CLASSIFY (R121). -/
def execClassify (s : State) : Host.Outcome State Fault Refusal := .next (localCycle .classify classifyWork s)

/-! ### EXECUTE -/

/-- A cycle of FRAME_SENT: with `tx_ready` = 1 the offered byte is transferred, and the transfer of the last byte opens
the read window of the length byte (R112). -/
def frameSentCycle (s : State) : State :=
  if s.ports.txReady then
    let t := { peerTakes s with txIdx := s.txIdx + 1 }
    if (s.txIdx + 1).setWidth 8 = s.txLen then { t with seq := .awaitLen, timer := 0, rxN := 0 } else t
  else s

/-- Entry to VALIDATED, where LOCAL_LATENCY cycles begin (R115). -/
def enterValidated (s : State) : State := { s with seq := .validated, lat := Config.localLatency - 1 }

/-- The last cycle of a read window (R110). -/
def windowEnds (s : State) : Bool := s.timer == s.window - 1

/-- A cycle of AWAIT_LEN (R113). -/
def awaitLenCycle (s : State) : State :=
  if s.ports.rxValid then
    let t := { writeRx 0 s.ports.rxData s with rxN := 1, rxLen := s.ports.rxData }
    if s.ports.rxData.toNat < 5 then enterValidated t else { t with seq := .awaitBody, timer := 0 }
  else if windowEnds s then
    conclude ⟨.responseTimeout, .noLength, 0x00⟩ { s with rxCount := 0 }
  else { s with timer := s.timer + 1 }

/-- The byte of a cycle of AWAIT_BODY, if one arrives, is stored (R114). -/
def storeBody (s : State) : State :=
  if s.ports.rxValid then { writeRx s.rxN.toNat s.ports.rxData s with rxN := s.rxN + 1 } else s

/-- A cycle of AWAIT_BODY: a byte that completes the frame wins over the end of the window (R114). -/
def awaitBodyCycle (s : State) : State :=
  let t := storeBody s
  if t.rxN = t.rxLen then enterValidated t
  else if windowEnds t then enterValidated t
  else { t with timer := t.timer + 1 }

/-- A cycle of VALIDATED: after LOCAL_LATENCY cycles the response is classified (R115). -/
def validatedCycle (s : State) : State :=
  if s.lat = 0 then concludeTest (classify s.received) s else waitCycle s

/-- One cycle of EXECUTE, by sequencer state (R117, R120): the rows of R117's transition relation whose operation is
EXECUTE. Where another operation is in progress the state is unchanged (log entry 4). -/
def executeCycle (s : State) : State :=
  match s.seq with
  | .idle | .compute => localCycle .execute builderWork s
  | .frameSent => if s.op = .execute then frameSentCycle s else s
  | .awaitLen => if s.op = .execute then awaitLenCycle s else s
  | .awaitBody => if s.op = .execute then awaitBodyCycle s else s
  | .validated => if s.op = .execute then validatedCycle s else s

/-- EXECUTE (R120). -/
def execExecute (s : State) : Host.Outcome State Fault Refusal := .next (executeCycle s)

/-! ### What the validator parses -/

/-- What an intact response with this payload means: status byte R[2], error-code byte R[4] where the frame holds one
(R72, R73, R107, R108). -/
def payloadMeaning (payload : List Byte) : Classification :=
  if payload.getD 1 0 = 0x00 then ⟨.protocol, .none, 0x00⟩
  else if payload.length < 4 then ⟨.responseCrcError, .noCodeByte, 0x00⟩
  else if payload.getD 3 0 ∈ resultCodes then ⟨.protocol, .none, payload.getD 3 0⟩
  else ⟨.unknownCode, .none, payload.getD 3 0⟩

/-- RESPONSE_FRAME: in the cycle in which the validator classifies bytes that begin with this frame, the operation
completes with the frame's meaning; in every other case the state is unchanged (R71, R72, R117; log entry 4). -/
def execResponseFrame (payload : List Byte) (s : State) : Host.Outcome State Fault Refusal :=
  .next (match s.underTest with
    | some buf =>
      if (Instr.responseFrame payload).wellFormed && buf.take (payload.length + 3) == responseBytes payload then
        concludeTest (payloadMeaning payload) s
      else s
    | none => s)

/-- A result code: in the cycle in which the validator classifies a response that carries the code, the operation
completes with OUTCOME = PROTOCOL and RESULT = the code; in every other case the state is unchanged (R72, R74, R117,
R122; log entry 4). -/
def resultCodeCycle (code : Byte) (s : State) : State :=
  match s.underTest with
  | some buf => if carriedCode buf = some code then concludeTest ⟨.protocol, .none, code⟩ s else s
  | none => s

/-- NO_ERROR (R74). -/
def execNoError (s : State) : Host.Outcome State Fault Refusal := .next (resultCodeCycle 0x00 s)

/-- CRC_ERROR (R74). -/
def execCrcError (s : State) : Host.Outcome State Fault Refusal := .next (resultCodeCycle 0x01 s)

/-- METHOD_ERROR (R74). -/
def execMethodError (s : State) : Host.Outcome State Fault Refusal := .next (resultCodeCycle 0x02 s)

/-- PARAMETERS_ERROR (R74). -/
def execParametersError (s : State) : Host.Outcome State Fault Refusal := .next (resultCodeCycle 0x03 s)

/-- TOO_EARLY_ERROR (R74). -/
def execTooEarlyError (s : State) : Host.Outcome State Fault Refusal := .next (resultCodeCycle 0x04 s)

/-- TIMEOUT_ERROR (R74). -/
def execTimeoutError (s : State) : Host.Outcome State Fault Refusal := .next (resultCodeCycle 0x05 s)

/-- UNDEFINED_ERROR (R74). -/
def execUndefinedError (s : State) : Host.Outcome State Fault Refusal := .next (resultCodeCycle 0x06 s)

/-- REDEFINED_ERROR (R74). -/
def execRedefinedError (s : State) : Host.Outcome State Fault Refusal := .next (resultCodeCycle 0x07 s)

/-- GENERIC_ERROR (R74). -/
def execGenericError (s : State) : Host.Outcome State Fault Refusal := .next (resultCodeCycle 0xFF s)

end Sys2Proof.Machine
end

