-- ==== Sys2Proof/Machine/Dispatch.lean ====
section
/-! DEFINITION. The dispatch of the instructions to their meanings, one arm per constructor. -/

namespace Sys2Proof.Machine

/-- What an instruction does in one cycle of the block. -/
def exec (i : Instr) (s : State) : Host.Outcome State Fault Refusal :=
  match i with
  | .nop => Sys2Proof.Machine.execNop s
  | .encode => Sys2Proof.Machine.execEncode s
  | .merge => Sys2Proof.Machine.execMerge s
  | .build => Sys2Proof.Machine.execBuild s
  | .checksum => Sys2Proof.Machine.execChecksum s
  | .verify => Sys2Proof.Machine.execVerify s
  | .classify => Sys2Proof.Machine.execClassify s
  | .execute => Sys2Proof.Machine.execExecute s
  | .paramUint8 v => Sys2Proof.Machine.execParamUint8 v s
  | .paramUint16 v => Sys2Proof.Machine.execParamUint16 v s
  | .paramUint32 v => Sys2Proof.Machine.execParamUint32 v s
  | .pairUint8Uint8 v1 v2 => Sys2Proof.Machine.execPairUint8Uint8 v1 v2 s
  | .pairUint8Uint16 v1 v2 => Sys2Proof.Machine.execPairUint8Uint16 v1 v2 s
  | .pairUint8Uint32 v1 v2 => Sys2Proof.Machine.execPairUint8Uint32 v1 v2 s
  | .pairUint16Uint8 v1 v2 => Sys2Proof.Machine.execPairUint16Uint8 v1 v2 s
  | .pairUint16Uint16 v1 v2 => Sys2Proof.Machine.execPairUint16Uint16 v1 v2 s
  | .pairUint16Uint32 v1 v2 => Sys2Proof.Machine.execPairUint16Uint32 v1 v2 s
  | .pairUint32Uint8 v1 v2 => Sys2Proof.Machine.execPairUint32Uint8 v1 v2 s
  | .pairUint32Uint16 v1 v2 => Sys2Proof.Machine.execPairUint32Uint16 v1 v2 s
  | .pairUint32Uint32 v1 v2 => Sys2Proof.Machine.execPairUint32Uint32 v1 v2 s
  | .cmdword fc n => Sys2Proof.Machine.execCmdword fc n s
  | .requestFrame fc ps => Sys2Proof.Machine.execRequestFrame fc ps s
  | .responseFrame payload => Sys2Proof.Machine.execResponseFrame payload s
  | .fc010 => Sys2Proof.Machine.execFc010 s
  | .fc011 => Sys2Proof.Machine.execFc011 s
  | .fc021 => Sys2Proof.Machine.execFc021 s
  | .fc031 => Sys2Proof.Machine.execFc031 s
  | .fc041 => Sys2Proof.Machine.execFc041 s
  | .fc051 => Sys2Proof.Machine.execFc051 s
  | .noError => Sys2Proof.Machine.execNoError s
  | .crcError => Sys2Proof.Machine.execCrcError s
  | .methodError => Sys2Proof.Machine.execMethodError s
  | .parametersError => Sys2Proof.Machine.execParametersError s
  | .tooEarlyError => Sys2Proof.Machine.execTooEarlyError s
  | .timeoutError => Sys2Proof.Machine.execTimeoutError s
  | .undefinedError => Sys2Proof.Machine.execUndefinedError s
  | .redefinedError => Sys2Proof.Machine.execRedefinedError s
  | .genericError => Sys2Proof.Machine.execGenericError s

end Sys2Proof.Machine
end

