-- ==== Sys2Proof/Machine/Fetch.lean ====
section
/-! DEFINITION. Where the next instruction comes from (log entry 3), and the state in which an instruction is the next
one. -/

namespace Sys2Proof.Machine

/-- The word the cycle's instruction is decoded from: while BUSY the operation in progress, held in `op`; in IDLE the word
the host writes to CMD in this cycle (R39, R42). -/
def State.fetchWord (s : State) : Option Word :=
  if s.busy then some (s.op.code.setWidth 32)
  else if s.ports.writesCmd then some s.ports.busWdata
  else none

/-- The cycle's instruction; a cycle of IDLE without a CMD write has none. -/
def State.fetch (s : State) : Option Instr := s.fetchWord.map decodeCmd

/-- The operation in progress is `o`, its LOCAL_LATENCY cycles have elapsed, and its own cycle is next. -/
def atWork (o : Op) (s : State) : State := { accept o s with lat := 0 }

/-- Slots from index `i` on take these parameters. -/
def setSlots : Nat → List Param → State → State
  | _, [], s => s
  | i, p :: ps, s => setSlots (i + 1) ps (setSlot i p s)

/-- FUNC, PCOUNT and the first slots hold this command word's fields and parameters. -/
def withRequest (fc : BitVec 12) (ps : List Param) (s : State) : State :=
  { setSlots 0 ps s with func := fc, pcount := BitVec.ofNat 8 ps.length }

/-- `n` parameters of zeros: UINT8 0 (log entry 14). -/
def zeroParams (n : Nat) : List Param := List.replicate n ⟨0x01, 0⟩

/-- RXBUF[0..n) and RX_COUNT hold these n bytes. -/
def withResponse (bytes : List Byte) (s : State) : State :=
  { s with rxbuf := Memory.writeAll Config.rxbufSize 0 bytes s.rxbuf, rxCount := BitVec.ofNat 8 bytes.length }

/-- The shortest response that carries a result code: status 0x01, the code at offset 4 (R72, R73; log entry 14). -/
def carrier (code : Byte) : List Byte := responseBytes [0x00, 0x01, 0x00, code]

/-- The state in which the block's next cycle is the work of this instruction: an operation in its cycle of COMPUTE; a
group, command word or request frame in the cycle of ENCODE, MERGE or BUILD that produces it; a response frame or result
code in the cycle of CLASSIFY that parses it (log entries 3 and 14). -/
def stage (i : Instr) (s : State) : State :=
  match i with
  | .nop => atWork .nop s
  | .encode => atWork .encode s
  | .merge => atWork .merge s
  | .build => atWork .build s
  | .checksum => atWork .checksum s
  | .verify => atWork .verify s
  | .classify => atWork .classify s
  | .execute => atWork .execute s
  | .paramUint8 _ | .paramUint16 _ | .paramUint32 _ => atWork .encode (setSlots 0 (rowParams i) s)
  | .pairUint8Uint8 _ _ | .pairUint8Uint16 _ _ | .pairUint8Uint32 _ _
  | .pairUint16Uint8 _ _ | .pairUint16Uint16 _ _ | .pairUint16Uint32 _ _
  | .pairUint32Uint8 _ _ | .pairUint32Uint16 _ _ | .pairUint32Uint32 _ _ =>
    atWork .merge (setSlots 0 (rowParams i) s)
  | .cmdword fc n => atWork .build (withRequest fc (zeroParams n.toNat) s)
  | .requestFrame fc ps => atWork .build (withRequest fc ps s)
  | .responseFrame payload => atWork .classify (withResponse (responseBytes payload) s)
  | .fc010 => atWork .build (withRequest 0x010 (zeroParams 1) s)
  | .fc011 => atWork .build (withRequest 0x011 (zeroParams 1) s)
  | .fc021 => atWork .build (withRequest 0x021 (zeroParams 1) s)
  | .fc031 => atWork .build (withRequest 0x031 (zeroParams 1) s)
  | .fc041 => atWork .build (withRequest 0x041 (zeroParams 1) s)
  | .fc051 => atWork .build (withRequest 0x051 (zeroParams 1) s)
  | .noError => atWork .classify (withResponse (carrier 0x00) s)
  | .crcError => atWork .classify (withResponse (carrier 0x01) s)
  | .methodError => atWork .classify (withResponse (carrier 0x02) s)
  | .parametersError => atWork .classify (withResponse (carrier 0x03) s)
  | .tooEarlyError => atWork .classify (withResponse (carrier 0x04) s)
  | .timeoutError => atWork .classify (withResponse (carrier 0x05) s)
  | .undefinedError => atWork .classify (withResponse (carrier 0x06) s)
  | .redefinedError => atWork .classify (withResponse (carrier 0x07) s)
  | .genericError => atWork .classify (withResponse (carrier 0xFF) s)

/-- The next cycle is a quiet one, before the inputs already pending. -/
def quietNext (s : State) : State := { s with inputs := Ports.quiet :: s.inputs }

end Sys2Proof.Machine
end

