-- ==== Sys2Proof/Machine/Step.lean ====
section
/-! DEFINITION. One clock cycle of the block (R17, R18, R117, R132; log entry 1). -/

namespace Sys2Proof.Machine

/-- One rising edge of `clk`: the cycle's port inputs are taken; `rst` = 1 overrides everything (R132, R141); otherwise
the ports act on the state at the start of the cycle, and then the cycle's instruction does (R18). -/
def step (s : State) : Host.Outcome State Fault Refusal :=
  let c := s.latch
  if c.ports.rst then .next (resetCycle c)
  else
    match c.fetch with
    | some i => exec i (portSide c)
    | none => .next (portSide c)

/-- The state in which the very next step runs the instruction of these bits (log entries 3 and 14): the block stands at
the instruction's cycle, and the next cycle's ports are quiet. Bits of no instruction change nothing but that. -/
def State.withFetchWord (s : State) (nbits w : Nat) : State :=
  match decodeTableWord nbits w with
  | some i => quietNext (stage i s)
  | none => quietNext s

end Sys2Proof.Machine
end

