-- ==== Sys2Proof/Machine/HostProgram.lean ====
section
/-! DEFINITION. The notation of host programs and serial-peer lines (R79), as the port inputs of consecutive cycles. The
loop `wait_done` is the host's, and no fixed list of cycles (log entry 17). -/

namespace Sys2Proof.Machine

/-- `wr NAME, v` (R79). -/
def Ports.wr (r : HostReg) (v : Word) : Ports :=
  { Ports.quiet with busSel := true, busWe := true, busAddr := offsetOf r, busWdata := v }

/-- `rd NAME` (R79). -/
def Ports.rd (r : HostReg) : Ports := { Ports.quiet with busSel := true, busAddr := offsetOf r }

/-- A cycle with `rst` = 1 (R141). -/
def Ports.reset : Ports := { Ports.quiet with rst := true }

/-- A cycle in which the peer would take an offered byte (R19). -/
def Ports.takes : Ports := { Ports.quiet with txReady := true }

/-- A cycle in which the peer delivers a byte (R20). -/
def Ports.sends (b : Byte) : Ports := { Ports.quiet with rxValid := true, rxData := b }

/-- `start OPNAME` (R79). -/
def hostStart (o : Op) : List Ports := [Ports.wr .cmd (o.code.setWidth 32)]

/-- `param i, t, v` (R79). -/
def hostParam (i : Nat) (p : Param) : List Ports := [Ports.wr (.ptype i) (p.tag.setWidth 32), Ports.wr (.pvalue i) p.value]

/-- `rxload b0 b1 ... bk-1` (R79). -/
def hostRxload (bs : List Byte) : List Ports :=
  bs.zipIdx.map (fun bi => Ports.wr (.rxbuf bi.2) (bi.1.setWidth 32)) ++ [Ports.wr .rxCount (BitVec.ofNat 32 bs.length)]

/-- `clear_done` (R79). -/
def hostClearDone : List Ports := [Ports.wr .status 0x00000002]

/-- `peer takes n`, one byte a cycle (R79). -/
def peerTakesCycles (n : Nat) : List Ports := List.replicate n Ports.takes

/-- `peer sends b0 ... bk-1`, one byte a cycle (R79). -/
def peerSendsCycles (bs : List Byte) : List Ports := bs.map Ports.sends

/-- `peer silent`, for n cycles (R79). -/
def peerSilentCycles (n : Nat) : List Ports := List.replicate n Ports.quiet

end Sys2Proof.Machine
end

