-- ==== Sys2Proof/Safety.lean ====
section
/-! DEFINITION. What a safe state is: the invariants of the block's registers, buffers and sequencer, in the terms the
statements use. -/

namespace Sys2Proof.Machine

/-- Both buffers are in canonical form: indices strictly rising, below the buffer's size (R36, R37). -/
abbrev buffersCanonical (s : State) : Prop :=
  Memory.wf Config.txbufSize s.txbuf = true ∧ Memory.wf Config.rxbufSize s.rxbuf = true

/-- The result fields of STATUS agree with each other: FAIL_CAUSE is non-zero exactly when OUTCOME is a transport error
(R123), PRE_ERR exactly when OUTCOME = PRECONDITION, ERR_SLOT names a slot of a type or range error only (R124), and
RESULT holds what OUTCOME says it holds (R122). -/
abbrev statusConsistent (s : State) : Prop :=
  (s.failCause ≠ .none ↔ s.outcome = .responseTimeout ∨ s.outcome = .responseCrcError) ∧
  (s.failCause = .noLength ↔ s.outcome = .responseTimeout) ∧
  (s.preErr ≠ .none ↔ s.outcome = .precondition) ∧
  (s.preErr = .none ∨ s.preErr = .tooManyParams → s.errSlot = 0) ∧
  s.errSlot.toNat ≤ 14 ∧
  (s.outcome ≠ .protocol ∧ s.outcome ≠ .unknownCode → s.result = 0x00) ∧
  (s.outcome = .protocol → s.result ∈ resultCodes) ∧
  (s.outcome = .unknownCode → 0x08 ≤ s.result.toNat ∧ s.result.toNat ≤ 0xFE)

/-- While BUSY no result of the running operation shows: DONE and VERIFY_OK are 0 and the result fields hold what the
acceptance left (R42, R128, R146). -/
abbrev busyShowsNoResult (s : State) : Prop :=
  s.busy = true →
    s.done = false ∧ s.verifyOk = false ∧ s.outcome = .none ∧ s.preErr = .none ∧ s.failCause = .none ∧
      s.errSlot = 0 ∧ s.result = 0x00

/-- A buffer begins with these bytes, all of them written. -/
def holdsBytes (m : Memory) (bytes : List Byte) : Bool :=
  (List.range bytes.length).all fun i => Memory.byte? m i == bytes[i]?

/-- TXBUF[0..TX_LEN) is the request frame of the request registers (R111, R116). -/
def sentFrame (s : State) : Bool :=
  match s.builtFrame with
  | .ok frame => frame.length == s.txLen.toNat && holdsBytes s.txbuf frame
  | .error _ => false

/-- RXBUF[0..rx_n) was written, and RXBUF[0] is rx_len (R113, R114, R116). -/
def receivedSome (s : State) : Bool :=
  1 ≤ s.rxN.toNat && (List.range s.rxN.toNat).all (fun i => (Memory.byte? s.rxbuf i).isSome) &&
    Memory.byte? s.rxbuf 0 == some s.rxLen

/-- What holds of the hidden registers in each sequencer state (R40, R110-R117). -/
def sequencerOk (s : State) : Bool :=
  match s.seq with
  | .idle => true
  | .compute => s.lat ≤ Config.localLatency - 1
  | .frameSent => s.op == .execute && sentFrame s && s.txIdx.toNat < s.txLen.toNat
  | .awaitLen => s.op == .execute && sentFrame s && s.rxN == 0 && s.timer.toNat < s.window.toNat
  | .awaitBody =>
    s.op == .execute && sentFrame s && receivedSome s && 5 ≤ s.rxLen.toNat && s.rxN.toNat < s.rxLen.toNat &&
      s.timer.toNat < s.window.toNat
  | .validated =>
    s.op == .execute && sentFrame s && receivedSome s && (s.rxN == 1 || s.rxN.toNat ≤ s.rxLen.toNat) &&
      s.lat ≤ Config.localLatency - 1

/-- TX_LEN is at most 73 (R31). -/
abbrev txLenBounded (s : State) : Prop := s.txLen.toNat ≤ Config.txbufSize

/-- The invariant of the block. -/
abbrev SafeState (s : State) : Prop :=
  buffersCanonical s ∧ statusConsistent s ∧ busyShowsNoResult s ∧ txLenBounded s ∧ sequencerOk s = true

/-! ### What a cycle leaves behind, in the terms of the statements -/

/-- The largest value of a type (R81). -/
def typeMax : IntType → Nat
  | .uint8 => 0xFF | .uint16 => 0xFFFF | .uint32 => 0xFFFFFFFF

/-- Which precondition a parameter fails, type before range (R80, R81, R82). -/
def paramError (p : Param) : Option PreErr :=
  match typeOfTag p.tag with
  | none => some .unsupportedType
  | some ty => if typeMax ty < p.value.toNat then some .valueRange else none

/-- The outcomes an operation can reach (R129). -/
def allowedOutcomes : Op → List OutcomeCode
  | .nop => [.none]
  | .encode | .merge | .build => [.none, .precondition]
  | .checksum | .verify => [.none]
  | .classify => [.protocol, .responseTimeout, .responseCrcError, .unknownCode]
  | .execute => [.protocol, .responseTimeout, .responseCrcError, .unknownCode, .precondition]

/-- A buffer begins with these bytes, each written since reset: `RXBUF[0..len(bytes)) = bytes`. -/
def beginsWith (m : Memory) (bytes : List Byte) : Prop := ∀ i < bytes.length, Memory.byte? m i = bytes[i]?

/-- These bytes are what a read of a buffer's first bytes may give: each byte written since reset is as written, and one
never written is any byte (R38). -/
def agreesWith (m : Memory) (bytes : List Byte) : Prop :=
  ∀ i < bytes.length, ∀ b, Memory.byte? m i = some b → bytes[i]? = some b

/-- A register the host can write and read back, and for a slot or a buffer byte one that exists (R21). -/
def HostReg.readWrite : HostReg → Bool
  | .ctrl | .func | .pcount | .timeout | .crcExpect | .rxCount => true
  | .ptype i | .pvalue i => i < Config.nSlots
  | .rxbuf i => i < Config.rxbufSize
  | .cmd | .status | .crcResult | .txLen | .txbuf _ | .reserved => false

/-- The register exists in the map (R21). -/
def HostReg.mapped : HostReg → Bool
  | .ptype i | .pvalue i => i < Config.nSlots
  | .txbuf i => i < Config.txbufSize
  | .rxbuf i => i < Config.rxbufSize
  | .reserved => false
  | .cmd | .ctrl | .status | .func | .pcount | .timeout | .crcExpect | .crcResult | .txLen | .rxCount => true

/-- The bits of a written word that a register's fields keep (R24, R26-R29, R32, R34, R35, R37). -/
def HostReg.fieldMask : HostReg → Word
  | .ctrl => 0x00000001
  | .func => 0x00000FFF
  | .timeout | .pvalue _ => 0xFFFFFFFF
  | .crcExpect => 0x0000FFFF
  | .pcount | .rxCount | .ptype _ | .rxbuf _ => 0x000000FF
  | .cmd | .status | .crcResult | .txLen | .txbuf _ | .reserved => 0x00000000

/-- A register whose writes have no effect while BUSY (R43). -/
def HostReg.request : HostReg → Bool
  | .func | .pcount | .timeout | .crcExpect | .rxCount | .ptype _ | .pvalue _ | .rxbuf _ => true
  | .cmd | .ctrl | .status | .crcResult | .txLen | .txbuf _ | .reserved => false

/-- TXBUF[0..len(bytes)) are these bytes after the cycle, and every higher byte reads as before (R36, R104). -/
def txbufBecomes (bytes : List Byte) (s t : State) : Prop :=
  ∀ i, Memory.byte? t.txbuf i = if i < bytes.length then bytes[i]? else Memory.byte? s.txbuf i

/-- RXBUF[k] is this byte after the cycle, and every other byte reads as before. -/
def rxbufBecomes (k : Nat) (b : Byte) (s t : State) : Prop :=
  ∀ i, Memory.byte? t.rxbuf i = if i = k then some b else Memory.byte? s.rxbuf i

/-- The operation completed with these bytes in TXBUF; nothing else of the state changed. -/
def Produced (bytes : List Byte) (s t : State) : Prop :=
  t = { s with
    seq := .idle, done := true, outcome := .none
    txLen := BitVec.ofNat 8 bytes.length, txbuf := t.txbuf } ∧ txbufBecomes bytes s t

/-- The operation completed with this precondition error (R126); nothing else of the state changed, no buffer among it. -/
def Rejected (code : PreErr) (slot : BitVec 4) (s t : State) : Prop :=
  t = { s with
    seq := .idle, done := true, outcome := .precondition, preErr := code, errSlot := slot
    result := 0x00, failCause := .none, txLen := 0 }

/-- EXECUTE's frame is in TXBUF and its transmission begins (R111); nothing else of the state changed. -/
def Transmits (frame : List Byte) (s t : State) : Prop :=
  t = { s with
    seq := .frameSent, txIdx := 0
    txLen := BitVec.ofNat 8 frame.length, txbuf := t.txbuf } ∧ txbufBecomes frame s t

/-- The frame of BUILD or of EXECUTE, by the operation in progress (R105, R111). -/
def Emitted (frame : List Byte) (s t : State) : Prop :=
  (s.op = .build → Produced frame s t) ∧ (s.op = .execute → Transmits frame s t)

/-- CLASSIFY or EXECUTE completed with this triple of classify; nothing but the result fields, the count of free values
and, for EXECUTE, RX_COUNT changed (R115, R121). -/
def Classified (c : Classification) (s t : State) : Prop :=
  t = { s with
    seq := .idle, done := true, outcome := c.outcome, failCause := c.failCause, result := c.result
    rxCount := if s.seq = .validated then s.rxN else s.rxCount, opDraws := t.opDraws }

/-- The block's cycle is the work of this instruction: an operation's own cycle of COMPUTE, EXECUTE's cycles behind it, or
the cycle in which the packer, the builder or the validator produces or parses the row (log entries 3 and 4). -/
def handles (i : Instr) (s : State) : Bool :=
  match i with
  | .nop => s.performing .nop
  | .encode => s.performing .encode
  | .merge => s.performing .merge
  | .build => s.performing .build
  | .checksum => s.performing .checksum
  | .verify => s.performing .verify
  | .classify => s.performing .classify
  | .execute => s.performing .execute || (s.op == .execute && s.seq != .idle && s.seq != .compute)
  | .paramUint8 _ | .paramUint16 _ | .paramUint32 _
  | .pairUint8Uint8 _ _ | .pairUint8Uint16 _ _ | .pairUint8Uint32 _ _
  | .pairUint16Uint8 _ _ | .pairUint16Uint16 _ _ | .pairUint16Uint32 _ _
  | .pairUint32Uint8 _ _ | .pairUint32Uint16 _ _ | .pairUint32Uint32 _ _ => producesGroup i s
  | .cmdword fc n => s.buildingFor fc (n.setWidth 8)
  | .requestFrame fc ps => producesFrame fc ps s
  | .responseFrame payload =>
    (Instr.responseFrame payload).wellFormed &&
      s.underTest.any fun buf => buf.take (payload.length + 3) == responseBytes payload
  | .fc010 => s.buildingFor 0x010 1
  | .fc011 => s.buildingFor 0x011 1
  | .fc021 => s.buildingFor 0x021 1
  | .fc031 => s.buildingFor 0x031 1
  | .fc041 => s.buildingFor 0x041 1
  | .fc051 => s.buildingFor 0x051 1
  | .noError => s.underTest.any fun buf => carriedCode buf == some 0x00
  | .crcError => s.underTest.any fun buf => carriedCode buf == some 0x01
  | .methodError => s.underTest.any fun buf => carriedCode buf == some 0x02
  | .parametersError => s.underTest.any fun buf => carriedCode buf == some 0x03
  | .tooEarlyError => s.underTest.any fun buf => carriedCode buf == some 0x04
  | .timeoutError => s.underTest.any fun buf => carriedCode buf == some 0x05
  | .undefinedError => s.underTest.any fun buf => carriedCode buf == some 0x06
  | .redefinedError => s.underTest.any fun buf => carriedCode buf == some 0x07
  | .genericError => s.underTest.any fun buf => carriedCode buf == some 0xFF

/-! ### Two EXECUTEs side by side (R119) -/

/-- Two buffers read alike below an index. -/
def agreeBelow (n : Nat) (m m' : Memory) : Prop := ∀ i < n, Memory.byte? m i = Memory.byte? m' i

/-- Two blocks at the same point of the same EXECUTE: the request registers and the hidden registers in use agree, and so
do the buffer bytes of the transaction. Nothing is said of CRC registers, of flags, of RX_COUNT, of CTRL, of stale hidden
registers or of any other buffer byte. -/
structure SameTransaction (s t : State) : Prop where
  seq     : s.seq = t.seq
  op      : s.op = .execute ∧ t.op = .execute
  request : s.func = t.func ∧ s.pcount = t.pcount ∧ s.slots = t.slots ∧ s.timeout = t.timeout
  lat     : s.seq = .compute ∨ s.seq = .validated → s.lat = t.lat
  tx      : s.seq ≠ .compute → s.txLen = t.txLen ∧ agreeBelow s.txLen.toNat s.txbuf t.txbuf
  txIdx   : s.seq = .frameSent → s.txIdx = t.txIdx
  timer   : s.seq = .awaitLen ∨ s.seq = .awaitBody → s.timer = t.timer
  rx      : s.seq = .awaitBody ∨ s.seq = .validated →
              s.rxN = t.rxN ∧ s.rxLen = t.rxLen ∧ agreeBelow s.rxN.toNat s.rxbuf t.rxbuf

/-- Two EXECUTEs ended alike: outcome, cause and result, the precondition, and the transmit buffer; past COMPUTE also the
received bytes (R119). -/
structure SameResult (pastCompute : Bool) (s t : State) : Prop where
  result : s.outcome = t.outcome ∧ s.failCause = t.failCause ∧ s.result = t.result
  pre    : s.preErr = t.preErr ∧ s.errSlot = t.errSlot
  txLen  : s.txLen = t.txLen
  tx     : agreeBelow s.txLen.toNat s.txbuf t.txbuf
  rx     : pastCompute = true → s.rxCount = t.rxCount ∧ agreeBelow s.rxCount.toNat s.rxbuf t.rxbuf

end Sys2Proof.Machine
end

