-- ==== Sys2Proof/Certificates/Slice0/Obligations.lean ====
section
/-! DEFINITION. The statements for the provers. -/

open Sys2Proof Sys2Proof.Machine

/-! ### Encodings -/

/-- R66, R67, R69, R70, R71, R74, R76, R78: no bit of any encoding is dropped. Of the six words two rows match the model
gives CMDWORD none (log entry 5, the model's choice). -/
def Obligations.DecodeInvertsEncode : Prop :=
  ∀ i : Instr, i.wellFormed = true → decode (encode i) = .ok i

/-- The other direction: bits that decode are the encoding of what they decode to, which is well formed. Of a word written
to CMD only bits [2:0] come back (R76). -/
def Obligations.EncodeInvertsDecode : Prop :=
  ∀ (c : Code) (i : Instr), decode c = .ok i →
    i.wellFormed = true ∧ ((∃ w, c = .cmd w ∧ encode i = .cmd (w &&& 0x00000007)) ∨ encode i = c)

/-- Words written out from the spec's tables: R76, R66, R67, R69, R78, R74, and the frames of 95_test_vectors.md S7 and
S9b. That 0x0211, which CMDWORD's row matches too, is FC_021's word is the model's choice (log entry 5). -/
def Obligations.SampleWordsDecode : Prop :=
  decode (.cmd 0x00000001) = .ok .encode ∧
  decode (.cmd 0xFFFFFFFF) = .ok .execute ∧
  decode (.group [0x20, 0x12, 0x34]) = .ok (.paramUint16 0x1234) ∧
  decode (.group [0x12, 0x05, 0x12, 0x34]) = .ok (.pairUint8Uint16 0x05 0x1234) ∧
  decode (.commandWord 0xFFF5) = .ok (.cmdword 0xFFF 5) ∧
  decode (.commandWord 0x0211) = .ok .fc021 ∧
  decode (.resultCode 0xFF) = .ok .genericError ∧
  decode (.resultCode 0x08) = .error .unknownResultCode ∧
  decode (.request [0x07, 0x01, 0x01, 0x10, 0x01, 0xB5, 0xA3]) = .ok (.requestFrame 0x010 [⟨0x01, 0x00000001⟩]) ∧
  decode (.response [0x07, 0x00, 0x11, 0x10, 0x01, 0xCC, 0x08]) = .ok (.responseFrame [0x00, 0x11, 0x10, 0x01])

/-- R67: header, value bytes, length and the nine headers of a merged pair. -/
def Obligations.PairFormat : Prop :=
  ∀ p q : Param, p.valid = true → q.valid = true →
    ∃ (t1 t2 : IntType) (i : Instr), typeOfTag p.tag = some t1 ∧ typeOfTag q.tag = some t2 ∧ pairRow p q = some i ∧
      groupBytes i = ((p.tag <<< 4) + q.tag) :: (vbytes t1 p.value ++ vbytes t2 q.value) ∧
      (((p.tag <<< 4) + q.tag).extractLsb' 4 4).setWidth 8 = p.tag ∧
      (((p.tag <<< 4) + q.tag).extractLsb' 0 4).setWidth 8 = q.tag ∧
      (p.tag <<< 4) + q.tag ∈ [0x11#8, 0x12#8, 0x13#8, 0x21#8, 0x22#8, 0x23#8, 0x31#8, 0x32#8, 0x33#8] ∧
      (groupBytes i).length = 1 + typeWidth t1 + typeWidth t2 ∧
      3 ≤ (groupBytes i).length ∧ (groupBytes i).length ≤ 9

/-! ### Parameter-packer -/

/-- R80, R81, R82: every tag but UINT8, UINT16 and UINT32 is rejected, whatever the value; then a value above its type's
maximum is; a value that passes is encoded, never empty and never truncated. -/
def Obligations.ParameterChecks : Prop :=
  ∀ (p : Param) (slot : BitVec 4),
    (p.tag ∉ [0x01#8, 0x02#8, 0x03#8] → checkType p.tag slot = .error ⟨.unsupportedType, slot⟩ ∧
      checkParam p slot = .error ⟨.unsupportedType, slot⟩) ∧
    (p.tag ∈ [0x01#8, 0x02#8, 0x03#8] → ∃ ty, checkType p.tag slot = .ok ty ∧ tagOf ty = p.tag ∧
      (typeMax ty < p.value.toNat → checkRange ty p.value slot = .error ⟨.valueRange, slot⟩ ∧
        checkParam p slot = .error ⟨.valueRange, slot⟩) ∧
      (p.value.toNat ≤ typeMax ty → checkRange ty p.value slot = .ok () ∧ checkParam p slot = .ok ty ∧
        encodeParam ty p.value ≠ [] ∧ takeValue ty (vbytes ty p.value) = some (p.value, []))) ∧
    checkRange .uint32 p.value slot = .ok ()

/-- R87: ENCODE completes, with slot 0's encoding or with slot 0's precondition error; nothing else changes, and only slot
0 decides. -/
def Obligations.EncodeOperation : Prop :=
  ∀ s : State, s.performing .encode = true →
    ∃ t, exec .encode s = .next t ∧
      (∀ e, paramError (s.slot 0) = some e → Rejected e 0 s t) ∧
      (∀ ty, paramError (s.slot 0) = none → typeOfTag (s.slot 0).tag = some ty →
        Produced (((s.slot 0).tag <<< 4) :: vbytes ty (s.slot 0).value) s t)

/-- R88: MERGE completes, with the pair of slots 0 and 1 or with the first precondition error, slot 0's before slot 1's;
nothing else changes. -/
def Obligations.MergeOperation : Prop :=
  ∀ s : State, s.performing .merge = true →
    ∃ t, exec .merge s = .next t ∧
      (∀ e, paramError (s.slot 0) = some e → Rejected e 0 s t) ∧
      (∀ e, paramError (s.slot 0) = none → paramError (s.slot 1) = some e → Rejected e 1 s t) ∧
      (∀ t1 t2, paramError (s.slot 0) = none → paramError (s.slot 1) = none →
        typeOfTag (s.slot 0).tag = some t1 → typeOfTag (s.slot 1).tag = some t2 →
        Produced ((((s.slot 0).tag <<< 4) + (s.slot 1).tag) ::
          (vbytes t1 (s.slot 0).value ++ vbytes t2 (s.slot 1).value)) s t)

/-- R66: the three lone-parameter rows, each in the cycle in which ENCODE produces it (log entry 4). -/
def Obligations.LoneParameterRows : Prop :=
  ∀ s : State, s.performing .encode = true →
    (∀ v : BitVec 8, s.slot 0 = ⟨0x01, v.setWidth 32⟩ →
      ∃ t, exec (.paramUint8 v) s = .next t ∧ Produced [0x10, v] s t) ∧
    (∀ v : BitVec 16, s.slot 0 = ⟨0x02, v.setWidth 32⟩ →
      ∃ t, exec (.paramUint16 v) s = .next t ∧ Produced [0x20, v.extractLsb' 8 8, v.extractLsb' 0 8] s t) ∧
    (∀ v : BitVec 32, s.slot 0 = ⟨0x03, v⟩ →
      ∃ t, exec (.paramUint32 v) s = .next t ∧
        Produced [0x30, v.extractLsb' 24 8, v.extractLsb' 16 8, v.extractLsb' 8 8, v.extractLsb' 0 8] s t)

/-- R67: the nine pair rows, each in the cycle in which MERGE produces it (log entry 4). -/
def Obligations.PairRows : Prop :=
  ∀ s : State, s.performing .merge = true →
    (∀ a b : BitVec 8, s.slot 0 = ⟨0x01, a.setWidth 32⟩ → s.slot 1 = ⟨0x01, b.setWidth 32⟩ →
      ∃ t, exec (.pairUint8Uint8 a b) s = .next t ∧ Produced [0x11, a, b] s t) ∧
    (∀ (a : BitVec 8) (b : BitVec 16), s.slot 0 = ⟨0x01, a.setWidth 32⟩ → s.slot 1 = ⟨0x02, b.setWidth 32⟩ →
      ∃ t, exec (.pairUint8Uint16 a b) s = .next t ∧ Produced ([0x12, a] ++ be16 b) s t) ∧
    (∀ (a : BitVec 8) (b : BitVec 32), s.slot 0 = ⟨0x01, a.setWidth 32⟩ → s.slot 1 = ⟨0x03, b⟩ →
      ∃ t, exec (.pairUint8Uint32 a b) s = .next t ∧ Produced ([0x13, a] ++ be32 b) s t) ∧
    (∀ (a : BitVec 16) (b : BitVec 8), s.slot 0 = ⟨0x02, a.setWidth 32⟩ → s.slot 1 = ⟨0x01, b.setWidth 32⟩ →
      ∃ t, exec (.pairUint16Uint8 a b) s = .next t ∧ Produced ([0x21] ++ be16 a ++ [b]) s t) ∧
    (∀ a b : BitVec 16, s.slot 0 = ⟨0x02, a.setWidth 32⟩ → s.slot 1 = ⟨0x02, b.setWidth 32⟩ →
      ∃ t, exec (.pairUint16Uint16 a b) s = .next t ∧ Produced ([0x22] ++ be16 a ++ be16 b) s t) ∧
    (∀ (a : BitVec 16) (b : BitVec 32), s.slot 0 = ⟨0x02, a.setWidth 32⟩ → s.slot 1 = ⟨0x03, b⟩ →
      ∃ t, exec (.pairUint16Uint32 a b) s = .next t ∧ Produced ([0x23] ++ be16 a ++ be32 b) s t) ∧
    (∀ (a : BitVec 32) (b : BitVec 8), s.slot 0 = ⟨0x03, a⟩ → s.slot 1 = ⟨0x01, b.setWidth 32⟩ →
      ∃ t, exec (.pairUint32Uint8 a b) s = .next t ∧ Produced ([0x31] ++ be32 a ++ [b]) s t) ∧
    (∀ (a : BitVec 32) (b : BitVec 16), s.slot 0 = ⟨0x03, a⟩ → s.slot 1 = ⟨0x02, b.setWidth 32⟩ →
      ∃ t, exec (.pairUint32Uint16 a b) s = .next t ∧ Produced ([0x32] ++ be32 a ++ be16 b) s t) ∧
    (∀ a b : BitVec 32, s.slot 0 = ⟨0x03, a⟩ → s.slot 1 = ⟨0x03, b⟩ →
      ∃ t, exec (.pairUint32Uint32 a b) s = .next t ∧ Produced ([0x33] ++ be32 a ++ be32 b) s t)

/-! ### crc16-engine -/

/-- R93: the residual is zero exactly for the right CRC. -/
def Obligations.ResidualZeroExactlyForOwnCrc : Prop :=
  ∀ (m : List Byte) (w : BitVec 16), crc16 (m ++ [w.extractLsb' 8 8, w.extractLsb' 0 8]) = 0x0000#16 ↔ w = crc16 m

/-- R95: a flip of any one bit of a sequence with residual zero makes the residual non-zero. -/
def Obligations.SingleBitFlipIsDetected : Prop :=
  ∀ (f : List Byte) (k bit : Nat), crc16 f = 0x0000#16 → k < f.length → bit < 8 →
    crc16 (f.set k (f.getD k 0 ^^^ (1#8 <<< bit))) ≠ 0x0000#16

/-- R96: CHECKSUM completes with the CRC of RXBUF[0..RX_COUNT) in CRC_RESULT; nothing else of the block changes. Where
those bytes were written since reset the CRC is theirs; a byte never written is a free value, and the CRC is that of the
written bytes with some byte for each free one. -/
def Obligations.ChecksumOperation : Prop :=
  ∀ s : State, s.performing .checksum = true →
    ∃ t, exec .checksum s = .next t ∧
      t = { s with
        seq := .idle, done := true, outcome := .none, crcResult := t.crcResult, opDraws := t.opDraws } ∧
      (∃ bytes : List Byte, bytes.length = s.rxCount.toNat ∧ agreesWith s.rxbuf bytes ∧ t.crcResult = crc16 bytes) ∧
      ∀ bytes : List Byte, bytes.length = s.rxCount.toNat → beginsWith s.rxbuf bytes → t.crcResult = crc16 bytes

/-- R97: VERIFY completes with the CRC of RXBUF[0..RX_COUNT) in CRC_RESULT and VERIFY_OK its equality with CRC_EXPECT;
nothing else of the block changes. A byte never written since reset is a free value. -/
def Obligations.VerifyOperation : Prop :=
  ∀ s : State, s.performing .verify = true →
    ∃ t, exec .verify s = .next t ∧
      t = { s with
        seq := .idle, done := true, outcome := .none, crcResult := t.crcResult, verifyOk := t.verifyOk,
        opDraws := t.opDraws } ∧
      (t.verifyOk = true ↔ t.crcResult = s.crcExpect) ∧
      (∃ bytes : List Byte, bytes.length = s.rxCount.toNat ∧ agreesWith s.rxbuf bytes ∧ t.crcResult = crc16 bytes) ∧
      ∀ bytes : List Byte, bytes.length = s.rxCount.toNat → beginsWith s.rxbuf bytes → t.crcResult = crc16 bytes

/-! ### Frame-builder -/

/-- R101, R102: the length of a frame by its parameters' types; the shortest and the longest frame. -/
def Obligations.FrameLength : Prop :=
  ∀ (fc : BitVec 12) (n : BitVec 8) (slots : Vector Param 15) (f : List Byte), build fc n slots.toList = .ok f →
    f.length + n.toNat / 2 =
      5 + ((slots.toList.take n.toNat).map fun p => 1 + (typeOfTag p.tag).elim 0 typeWidth).sum ∧
    5 ≤ f.length ∧ f.length ≤ 73 ∧
    (n = 0 →
      let front := [0x05, hiByte (commandWord fc 0), loByte (commandWord fc 0)]
      f = front ++ [hiByte (crc16 front), loByte (crc16 front)]) ∧
    (n = 15 → (∀ p ∈ slots.toList, p.tag = 0x03) → f.length = 73) ∧
    (fc = 0x000 → n = 0 → f = [0x05, 0x00, 0x00, 0xA1, 0xB5] ∧ classify f = ⟨.protocol, .none, 0x00⟩)

/-- R100, R103: a built frame begins with its own length and has residual zero. -/
def Obligations.FrameDescribesAndChecksItself : Prop :=
  ∀ (fc : BitVec 12) (n : BitVec 8) (slots : Vector Param 15) (f : List Byte), build fc n slots.toList = .ok f →
    (f.headD 0).toNat = f.length ∧ crc16 f = 0x0000#16 ∧
    ∃ ps, checkParams 0 (slots.toList.take n.toNat) = .ok ps ∧ f.length = 1 + 2 + (packParams ps).length + 2

/-- R70: what build returns is the request frame of the wire format, bytes and CRC. -/
def Obligations.BuildGivesTheRequestFormat : Prop :=
  ∀ (fc : BitVec 12) (n : BitVec 8) (slots : Vector Param 15) (f : List Byte), build fc n slots.toList = .ok f →
    let area := areaBytes (slots.toList.take n.toNat)
    let front := BitVec.ofNat 8 (1 + 2 + area.length + 2) :: (be16 (fc ++ n.setWidth 4) ++ area)
    f = front ++ be16 (crc16 front) ∧ f = requestBytes fc (slots.toList.take n.toNat)

/-- R98, R127: the count first, then the slots in increasing index, and within a slot the type before the range. -/
def Obligations.BuildReportsTheFirstFailure : Prop :=
  ∀ (fc : BitVec 12) (n : BitVec 8) (slots : Vector Param 15),
    (15 < n.toNat → build fc n slots.toList = .error ⟨.tooManyParams, 0⟩) ∧
    (n.toNat ≤ 15 → ∀ i < n.toNat, ∀ e, (∀ j < i, paramError (slots.toList.getD j ⟨0, 0⟩) = none) →
      paramError (slots.toList.getD i ⟨0, 0⟩) = some e → build fc n slots.toList = .error ⟨e, BitVec.ofNat 4 i⟩) ∧
    (n.toNat ≤ 15 → (∀ j < n.toNat, paramError (slots.toList.getD j ⟨0, 0⟩) = none) →
      ∃ f, build fc n slots.toList = .ok f)

/-- R105: BUILD completes, with the frame in TXBUF or with the first precondition error; nothing else changes. -/
def Obligations.BuildOperation : Prop :=
  ∀ s : State, s.performing .build = true →
    ∃ t, exec .build s = .next t ∧
      (∀ e, build s.func s.pcount s.slots.toList = .error e → Rejected e.code e.slot s t) ∧
      (∀ f, build s.func s.pcount s.slots.toList = .ok f → Produced f s t)

/-- R69, R78: a command word's row, in the cycle in which the builder runs on FUNC and PCOUNT that hold it, for every
function code alike (log entry 4). -/
def Obligations.CommandWordRows : Prop :=
  ∀ (s : State) (fc : BitVec 12) (n : BitVec 4), s.buildingFor fc (n.setWidth 8) = true →
    let outcome := fun t : State =>
      (∀ e, build fc (n.setWidth 8) s.slots.toList = .error e → Rejected e.code e.slot s t) ∧
      (∀ f, build fc (n.setWidth 8) s.slots.toList = .ok f → Emitted f s t ∧ (f.drop 1).take 2 = be16 (fc ++ n))
    (∃ t, exec (.cmdword fc n) s = .next t ∧ outcome t) ∧
    (fc = 0x010 ∧ n = 1 → ∃ t, exec .fc010 s = .next t ∧ outcome t) ∧
    (fc = 0x011 ∧ n = 1 → ∃ t, exec .fc011 s = .next t ∧ outcome t) ∧
    (fc = 0x021 ∧ n = 1 → ∃ t, exec .fc021 s = .next t ∧ outcome t) ∧
    (fc = 0x031 ∧ n = 1 → ∃ t, exec .fc031 s = .next t ∧ outcome t) ∧
    (fc = 0x041 ∧ n = 1 → ∃ t, exec .fc041 s = .next t ∧ outcome t) ∧
    (fc = 0x051 ∧ n = 1 → ∃ t, exec .fc051 s = .next t ∧ outcome t)

/-- R70: the request frame's row, in the cycle in which the builder produces it (log entry 4). -/
def Obligations.RequestFrameRow : Prop :=
  ∀ (s : State) (fc : BitVec 12) (ps : List Param),
    (Instr.requestFrame fc ps).wellFormed = true → s.buildingFor fc (BitVec.ofNat 8 ps.length) = true →
    s.slots.toList.take ps.length = ps →
    ∃ t, exec (.requestFrame fc ps) s = .next t ∧ Emitted (requestBytes fc ps) s t

/-! ### Response-validator -/

/-- R107, R108, R109, R74: the tests of classify in the order written; it reads the length byte and no byte at or above
the length it names; and a response is a protocol result exactly where it carries a code of the taxonomy. -/
def Obligations.ClassifyReadsTheFrameAndItsCode : Prop :=
  classify [] = ⟨.responseTimeout, .noLength, 0x00⟩ ∧
  (∀ (len : Byte) (rest : List Byte),
    let buf := len :: rest
    (len.toNat < 5 → classify buf = ⟨.responseCrcError, .lengthTooSmall, 0x00⟩) ∧
    (5 ≤ len.toNat → buf.length < len.toNat → classify buf = ⟨.responseCrcError, .truncated, 0x00⟩) ∧
    (5 ≤ len.toNat → len.toNat ≤ buf.length → crc16 (buf.take len.toNat) ≠ 0x0000#16 →
      classify buf = ⟨.responseCrcError, .crcMismatch, 0x00⟩) ∧
    (5 ≤ len.toNat → len.toNat ≤ buf.length → crc16 (buf.take len.toNat) = 0x0000#16 →
      (buf[2]? = some 0x00 → classify buf = ⟨.protocol, .none, 0x00⟩) ∧
      (buf[2]? ≠ some 0x00 → len.toNat < 7 → classify buf = ⟨.responseCrcError, .noCodeByte, 0x00⟩) ∧
      (∀ c, buf[2]? ≠ some 0x00 → 7 ≤ len.toNat → buf[4]? = some c →
        (c ∈ resultCodes → classify buf = ⟨.protocol, .none, c⟩) ∧
        (c ∉ resultCodes → classify buf = ⟨.unknownCode, .none, c⟩)))) ∧
  (∀ (len : Byte) (rest : List Byte), classify (len :: rest) = classify ((len :: rest).take (max 1 len.toNat))) ∧
  ∀ (buf : List Byte) (c : Byte), classify buf = ⟨.protocol, .none, c⟩ ↔ carriedCode buf = some c ∧ c ∈ resultCodes

/-- R106. -/
def Obligations.NopOperation : Prop :=
  ∀ s : State, s.performing .nop = true →
    exec .nop s = .next { s with seq := .idle, done := true, outcome := .none }

/-- R121: CLASSIFY completes with the classification of RXBUF[0..RX_COUNT); nothing else of the block changes. A byte never
written since reset is a free value: the triple is that of the written bytes with some byte for each free one. -/
def Obligations.ClassifyOperation : Prop :=
  ∀ s : State, s.performing .classify = true →
    ∃ t, exec .classify s = .next t ∧
      (∃ bytes : List Byte, bytes.length = s.rxCount.toNat ∧ agreesWith s.rxbuf bytes ∧
        Classified (classify bytes) s t) ∧
      ∀ bytes : List Byte, bytes.length = s.rxCount.toNat → beginsWith s.rxbuf bytes → Classified (classify bytes) s t

/-- R111: EXECUTE in COMPUTE waits, then builds: a precondition error completes it, a frame goes to TXBUF and FRAME_SENT
begins. That the wait is counted in `lat` is the model's choice (log entry 6). -/
def Obligations.ExecuteBuilds : Prop :=
  ∀ s : State, s.op = .execute → s.seq = .compute →
    (s.lat ≠ 0 → exec .execute s = .next { s with lat := s.lat - 1 }) ∧
    (s.lat = 0 → ∃ t, exec .execute s = .next t ∧
      (∀ e, build s.func s.pcount s.slots.toList = .error e → Rejected e.code e.slot s t) ∧
      (∀ f, build s.func s.pcount s.slots.toList = .ok f → Transmits f s t))

/-- R112: EXECUTE in FRAME_SENT. The byte transferred is TXBUF[tx_idx], `s.offered`. -/
def Obligations.ExecuteTransmits : Prop :=
  ∀ s : State, s.op = .execute → s.seq = .frameSent →
    (s.ports.txReady = false → exec .execute s = .next s) ∧
    (s.ports.txReady = true →
      (∀ b, Memory.byte? s.txbuf s.txIdx.toNat = some b → s.offered = b) ∧
      ((s.txIdx + 1).setWidth 8 ≠ s.txLen →
        exec .execute s =
          .next { s with txIdx := s.txIdx + 1, taken := s.taken ++ [s.offered], opDraws := s.opDraws + 1 }) ∧
      ((s.txIdx + 1).setWidth 8 = s.txLen →
        exec .execute s =
          .next { s with
            txIdx := s.txIdx + 1, taken := s.taken ++ [s.offered], opDraws := s.opDraws + 1
            seq := .awaitLen, timer := 0, rxN := 0 }))

/-- R113: EXECUTE in AWAIT_LEN. That `lat` starts at LOCAL_LATENCY - 1 with VALIDATED is the model's choice (log entry
6). -/
def Obligations.ExecuteAwaitsLength : Prop :=
  ∀ s : State, s.op = .execute → s.seq = .awaitLen →
    (s.ports.rxValid = true → s.ports.rxData.toNat < 5 →
      ∃ t, exec .execute s = .next t ∧ rxbufBecomes 0 s.ports.rxData s t ∧
        t = { s with
          rxN := 1, rxLen := s.ports.rxData, rxbuf := t.rxbuf, seq := .validated, lat := Config.localLatency - 1 }) ∧
    (s.ports.rxValid = true → 5 ≤ s.ports.rxData.toNat →
      ∃ t, exec .execute s = .next t ∧ rxbufBecomes 0 s.ports.rxData s t ∧
        t = { s with rxN := 1, rxLen := s.ports.rxData, rxbuf := t.rxbuf, seq := .awaitBody, timer := 0 }) ∧
    (s.ports.rxValid = false → s.timer = s.window - 1 →
      exec .execute s = .next { s with
        seq := .idle, done := true, outcome := .responseTimeout, failCause := .noLength, result := 0x00
        rxCount := 0 }) ∧
    (s.ports.rxValid = false → s.timer ≠ s.window - 1 → exec .execute s = .next { s with timer := s.timer + 1 })

/-- R114: EXECUTE in AWAIT_BODY, where rx_n < rx_len (it never exceeds rx_len: `SafeStateIsKept`). That `lat` starts at
LOCAL_LATENCY - 1 with VALIDATED is the model's choice (log entry 6). -/
def Obligations.ExecuteAwaitsBody : Prop :=
  ∀ s : State, s.op = .execute → s.seq = .awaitBody → s.rxN.toNat < s.rxLen.toNat →
    ∃ t, exec .execute s = .next t ∧
      (s.ports.rxValid = true → t.rxN = s.rxN + 1 ∧ rxbufBecomes s.rxN.toNat s.ports.rxData s t) ∧
      (s.ports.rxValid = false → t.rxN = s.rxN ∧ t.rxbuf = s.rxbuf) ∧
      (t.rxN = s.rxLen ∨ s.timer = s.window - 1 →
        t = { s with rxN := t.rxN, rxbuf := t.rxbuf, seq := .validated, lat := Config.localLatency - 1 }) ∧
      (t.rxN ≠ s.rxLen → s.timer ≠ s.window - 1 →
        t = { s with rxN := t.rxN, rxbuf := t.rxbuf, timer := s.timer + 1 })

/-- R115: EXECUTE in VALIDATED waits, then completes with the classification of RXBUF[0..rx_n) and RX_COUNT = rx_n. A byte
never written since reset is a free value. That the wait is counted in `lat` is the model's choice (log entry 6). -/
def Obligations.ExecuteValidates : Prop :=
  ∀ s : State, s.op = .execute → s.seq = .validated →
    (s.lat ≠ 0 → exec .execute s = .next { s with lat := s.lat - 1 }) ∧
    (s.lat = 0 → ∃ t, exec .execute s = .next t ∧
      (∃ bytes : List Byte, bytes.length = s.rxN.toNat ∧ agreesWith s.rxbuf bytes ∧ Classified (classify bytes) s t) ∧
      ∀ bytes : List Byte, bytes.length = s.rxN.toNat → beginsWith s.rxbuf bytes → Classified (classify bytes) s t)

/-- R71, R72, R73: the response frame's row, in the cycle in which CLASSIFY or EXECUTE parses bytes that begin with it:
the status byte is the payload's second byte, the error-code byte its fourth (log entry 4). -/
def Obligations.ResponseFrameRow : Prop :=
  ∀ (s : State) (payload buf : List Byte),
    (Instr.responseFrame payload).wellFormed = true → s.underTest = some buf →
    buf.take (payload.length + 3) = responseBytes payload →
    ∃ t, exec (.responseFrame payload) s = .next t ∧
      (payload[1]? = some 0x00 → Classified ⟨.protocol, .none, 0x00⟩ s t) ∧
      (payload[1]? ≠ some 0x00 → payload.length < 4 → Classified ⟨.responseCrcError, .noCodeByte, 0x00⟩ s t) ∧
      (∀ c, payload[1]? ≠ some 0x00 → payload[3]? = some c → c ∈ resultCodes →
        Classified ⟨.protocol, .none, c⟩ s t) ∧
      (∀ c, payload[1]? ≠ some 0x00 → payload[3]? = some c → c ∉ resultCodes →
        Classified ⟨.unknownCode, .none, c⟩ s t)

/-- R74, R122: the nine result codes' rows, each in the cycle in which CLASSIFY or EXECUTE parses a response that carries
the code (log entry 4). -/
def Obligations.ResultCodeRows : Prop :=
  ∀ (s : State) (buf : List Byte) (c : Byte), s.underTest = some buf → carriedCode buf = some c →
    (c = 0x00 → ∃ t, exec .noError s = .next t ∧ Classified ⟨.protocol, .none, 0x00⟩ s t) ∧
    (c = 0x01 → ∃ t, exec .crcError s = .next t ∧ Classified ⟨.protocol, .none, 0x01⟩ s t) ∧
    (c = 0x02 → ∃ t, exec .methodError s = .next t ∧ Classified ⟨.protocol, .none, 0x02⟩ s t) ∧
    (c = 0x03 → ∃ t, exec .parametersError s = .next t ∧ Classified ⟨.protocol, .none, 0x03⟩ s t) ∧
    (c = 0x04 → ∃ t, exec .tooEarlyError s = .next t ∧ Classified ⟨.protocol, .none, 0x04⟩ s t) ∧
    (c = 0x05 → ∃ t, exec .timeoutError s = .next t ∧ Classified ⟨.protocol, .none, 0x05⟩ s t) ∧
    (c = 0x06 → ∃ t, exec .undefinedError s = .next t ∧ Classified ⟨.protocol, .none, 0x06⟩ s t) ∧
    (c = 0x07 → ∃ t, exec .redefinedError s = .next t ∧ Classified ⟨.protocol, .none, 0x07⟩ s t) ∧
    (c = 0xFF → ∃ t, exec .genericError s = .next t ∧ Classified ⟨.protocol, .none, 0xFF⟩ s t)

/-! ### A step and its instruction -/

/-- A cycle runs the instruction its word decodes to: while BUSY the operation in progress, in IDLE the word the host
writes to CMD (R39, R42, R117). Around it the cycle takes its inputs (`latch`) and does the ports' part (`portSide`). A
cycle without an instruction does the ports' part alone. -/
def Obligations.StepRunsTheDecodedInstruction : Prop :=
  ∀ s : State, s.latch.ports.rst = false →
    (∀ w i, s.latch.fetchWord = some w → decode (.cmd w) = .ok i → step s = exec i (portSide s.latch)) ∧
    (s.latch.busy = true → s.latch.fetchWord = some (s.op.code.setWidth 32)) ∧
    (s.latch.busy = false → s.latch.ports.writesCmd = true → s.latch.fetchWord = some s.latch.ports.busWdata) ∧
    (s.latch.busy = false → s.latch.ports.writesCmd = false → step s = .next (portSide s.latch))

/-- The rest of an instruction's frame: where the block's cycle is not the row's, the row changes nothing, and while
another operation is in progress an operation changes nothing (R117; log entry 4). -/
def Obligations.RowsElsewhereChangeNothing : Prop :=
  (∀ (s : State) (i : Instr), (∀ w, encode i ≠ .cmd w) → handles i s = false → exec i s = .next s) ∧
  ∀ (s : State) (o : Op) (i : Instr), decode (.cmd (o.code.setWidth 32)) = .ok i → s.busy = true → s.op ≠ o →
    exec i s = .next s

/-- Whatever row the block's cycle is the work of, the step is that row's meaning (log entries 3 and 4). -/
def Obligations.StepRunsTheRowItHandles : Prop :=
  ∀ (s : State) (i : Instr), s.latch.ports.rst = false → handles i s.latch = true →
    step s = exec i (portSide s.latch)

/-- The state `withFetchWord` gives is one whose very next step runs the decoded row (log entries 3 and 14). -/
def Obligations.FetchWordIsRunNext : Prop :=
  ∀ (s : State) (nbits w : Nat) (i : Instr), decodeTableWord nbits w = some i →
    handles i (s.withFetchWord nbits w).latch = true ∧
    step (s.withFetchWord nbits w) = exec i (s.withFetchWord nbits w).latch

/-- R42: a CMD write with BUSY = 0 is accepted, and its effect is the one named here and no other; a CMD write with
BUSY = 1 sets REJECTED and leaves the operation in progress running. That `lat` starts at LOCAL_LATENCY - 1 is the model's
choice (log entry 6). -/
def Obligations.CmdWriteAcceptedOrRejected : Prop :=
  ∀ s : State, s.latch.ports.rst = false → s.latch.ports.writesCmd = true →
    (s.latch.busy = false → step s = .next { s.latch with
      op := Op.ofCode (s.latch.ports.busWdata.extractLsb' 0 3), seq := .compute, lat := Config.localLatency - 1
      done := false, rejected := false, verifyOk := false, strayRx := false
      outcome := .none, preErr := .none, failCause := .none, errSlot := 0, result := 0x00 }) ∧
    (s.latch.busy = true → ∀ i, decode (.cmd (s.op.code.setWidth 32)) = .ok i →
      step s = exec i (strayByte { s.latch with rejected := true }))

/-- R22, R133: there is no bus error and no trap; every cycle ends in a next state. -/
def Obligations.EveryCycleHasANextState : Prop :=
  ∀ s : State, ∃ t, step s = .next t

/-! ### Host registers -/

/-- R21, R22, R53: the register map. Every register stands at its offset, bits [1:0] are ignored, and what lies in the
four reserved ranges is reserved. -/
def Obligations.RegisterMap : Prop :=
  (∀ r : HostReg, r.mapped = true → regAt (offsetOf r) = r) ∧
  (∀ a : BitVec 12, regAt a = regAt (a &&& 0xFFC#12)) ∧
  (∀ a : BitVec 12, regAt a = .reserved ↔
    (0x028 ≤ a.toNat ∧ a.toNat < 0x040) ∨ (0x0B8 ≤ a.toNat ∧ a.toNat < 0x400) ∨
    (0x524 ≤ a.toNat ∧ a.toNat < 0x800) ∨ 0xBFC ≤ a.toNat)

/-- R18, R22, R24-R29, R32, R34, R35, R37: with BUSY = 0 a read-write register reads back the bits of its fields, and its
other bits read 0; a write changes no other mapped register (a write of RXBUF or a slot changes that byte or field alone);
and a cycle that writes does just that. A write of a read-only register, of a reserved offset, or of STATUS but for bit 1
changes nothing: the cycle ends as without it, and with bit 1 of STATUS only DONE is cleared. -/
def Obligations.RegistersReadBack : Prop :=
  (∀ (s : State) (r : HostReg) (v : Word), s.busy = false → r.readWrite = true →
    (s.writeReg r v).readReg r = v &&& r.fieldMask ∧
    ∀ r' : HostReg, r'.mapped = true → r' ≠ r → (s.writeReg r v).readReg r' = s.readReg r') ∧
  (∀ (s : State) (r : HostReg), s.latch.ports.rst = false → s.busy = false → s.latch.ports.writes = true →
    regAt s.latch.ports.busAddr = r → r.readWrite = true →
    ∃ t, step s = .next t ∧ t.busy = false ∧ t.readReg r = s.latch.ports.busWdata &&& r.fieldMask ∧
      (∀ r' : HostReg, r'.mapped = true → r' ≠ r → r' ≠ .status → t.readReg r' = s.readReg r') ∧
      t.statusWord = s.statusWord ||| (if s.latch.ports.rxValid then 0x00000010 else 0x00000000)) ∧
  ∀ (s : State) (p : Ports) (rest : List Ports), s.inputs = p :: rest → p.writes = true →
    (regAt p.busAddr).readWrite = false → regAt p.busAddr ≠ .cmd →
    ∃ t u, step s = .next t ∧ step { s with inputs := { p with busSel := false } :: rest } = .next u ∧
      (regAt p.busAddr ≠ .status ∨ p.busWdata.getLsbD 1 = false → t = { u with ports := p }) ∧
      (regAt p.busAddr = .status → p.busWdata.getLsbD 1 = true → p.rst = false → s.busy = false →
        t = { u with ports := p, done := false })

/-- R25: the fields of STATUS, its reserved bits 0. -/
def Obligations.StatusFields : Prop :=
  ∀ s : State,
    s.statusWord.getLsbD 0 = s.busy ∧ s.statusWord.getLsbD 1 = s.done ∧ s.statusWord.getLsbD 2 = s.rejected ∧
    s.statusWord.getLsbD 3 = s.verifyOk ∧ s.statusWord.getLsbD 4 = s.strayRx ∧
    s.statusWord.extractLsb' 5 3 = s.seq.code ∧ s.statusWord.extractLsb' 8 3 = s.outcome.code ∧
    s.statusWord.getLsbD 11 = false ∧ s.statusWord.extractLsb' 12 2 = s.preErr.code ∧
    s.statusWord.extractLsb' 14 2 = 0 ∧ s.statusWord.extractLsb' 16 3 = s.failCause.code ∧
    s.statusWord.getLsbD 19 = false ∧ s.statusWord.extractLsb' 20 4 = s.errSlot ∧
    s.statusWord.extractLsb' 24 8 = s.result

/-- R43: while BUSY a write of a request register has no effect; a write of CTRL and a W1C write of STATUS take effect;
the operation in progress runs on. -/
def Obligations.WritesWhileBusy : Prop :=
  ∀ (s : State) (i : Instr), s.latch.ports.rst = false → s.latch.busy = true → s.latch.ports.writes = true →
    decode (.cmd (s.op.code.setWidth 32)) = .ok i →
    ((regAt s.latch.ports.busAddr).request = true → step s = exec i (strayByte s.latch)) ∧
    (regAt s.latch.ports.busAddr = .ctrl →
      step s = exec i (strayByte { s.latch with ie := s.latch.ports.busWdata.getLsbD 0 })) ∧
    (regAt s.latch.ports.busAddr = .status → s.latch.ports.busWdata.getLsbD 1 = true →
      step s = exec i (strayByte { s.latch with done := false }))

/-- R54: a host read changes no state: with the read left out of the cycle the block ends in the same state. R18, R22: it
returns the register's contents at the start of the cycle; CMD and reserved offsets read 0. With BUSY = 1 the five
registers of results are free values (R44; log entry 9), and so is a buffer byte never written since reset. -/
def Obligations.HostReadsChangeNothing : Prop :=
  (∀ (s : State) (p : Ports) (rest : List Ports), s.inputs = p :: rest → p.reads = true →
    ∃ t u, step s = .next t ∧ step { s with inputs := { p with busSel := false } :: rest } = .next u ∧
      t = { u with ports := p, rdata := t.rdata, hostDraws := t.hostDraws } ∧
      (p.rst = false → t.rdata = some (s.latch.readReg (regAt p.busAddr)))) ∧
  ∀ s : State,
    s.readReg .cmd = 0x00000000 ∧ s.readReg .reserved = 0x00000000 ∧
    s.readReg .ctrl = (if s.ie then 0x00000001 else 0x00000000) ∧ s.readReg .status = s.statusWord ∧
    s.readReg .func = s.func.setWidth 32 ∧ s.readReg .pcount = s.pcount.setWidth 32 ∧
    s.readReg .timeout = s.timeout ∧ s.readReg .crcExpect = s.crcExpect.setWidth 32 ∧
    (∀ i < 15, s.readReg (.ptype i) = (s.slot i).tag.setWidth 32 ∧ s.readReg (.pvalue i) = (s.slot i).value) ∧
    (s.busy = false →
      s.readReg .crcResult = s.crcResult.setWidth 32 ∧ s.readReg .txLen = s.txLen.setWidth 32 ∧
      s.readReg .rxCount = s.rxCount.setWidth 32 ∧
      (∀ i b, Memory.byte? s.txbuf i = some b → s.readReg (.txbuf i) = b.setWidth 32) ∧
      (∀ i b, Memory.byte? s.rxbuf i = some b → s.readReg (.rxbuf i) = b.setWidth 32))

/-- R45: a byte outside AWAIT_LEN and AWAIT_BODY changes STRAY_RX and nothing else, and an acceptance in the same cycle
clears even that; in AWAIT_BODY rx_n has not reached rx_len. -/
def Obligations.StrayByteSetsOnlyItsFlag : Prop :=
  (∀ (s : State) (p : Ports) (rest : List Ports), s.inputs = p :: rest → p.rst = false → p.rxValid = true →
    s.seq ≠ .awaitLen → s.seq ≠ .awaitBody →
    ∃ t u, step s = .next t ∧ step { s with inputs := { p with rxValid := false } :: rest } = .next u ∧
      t = { u with ports := p, strayRx := !(s.seq == .idle && p.writesCmd) }) ∧
  ∀ s t : State, SafeState s → step s = .next t → t.seq = .awaitBody → t.rxN.toNat < t.rxLen.toNat

/-! ### The whole machine -/

/-- R47: the reset values, at the start and after any cycle with `rst` = 1. TIMEOUT's is the OPEN TIMEOUT_RESET, and no
buffer byte has a value. -/
def Obligations.ResetValues : Prop :=
  ∀ t : State, (t = State.reset ∨ ∃ s, s.latch.ports.rst = true ∧ step s = .next t) →
    t.seq = .idle ∧ t.statusWord = 0x00000000 ∧ t.ie = false ∧ t.func = 0x000 ∧ t.pcount = 0 ∧
    t.timeout = Config.timeoutReset ∧ t.crcExpect = 0x0000 ∧ t.crcResult = 0x0000 ∧ t.txLen = 0 ∧ t.rxCount = 0 ∧
    (∀ i < 15, t.slot i = ⟨0x00, 0x00000000⟩) ∧
    (∀ i, Memory.byte? t.txbuf i = none ∧ Memory.byte? t.rxbuf i = none) ∧
    t.txIdx = 0 ∧ t.rxN = 0 ∧ t.rxLen = 0 ∧ t.timer = 0 ∧ t.op = .nop ∧ t.txValid = false ∧ t.irq = false

/-- R141: a cycle with `rst` = 1 resets every piece of the block's state, whatever else happens in it. What is left as it
was lies outside the block, among it the peer's bytes (R142), to which at most the byte offered in that cycle is added:
that is the model's inference (log entry 16, DEDUCED). -/
def Obligations.ResetOverridesEverything : Prop :=
  ∀ s : State, s.latch.ports.rst = true →
    ∃ t, step s = .next t ∧
      t = { State.reset with
        ports := s.latch.ports, inputs := s.latch.inputs, taken := t.taken, opDraws := t.opDraws, rdata := t.rdata,
        hostDraws := t.hostDraws, idleDraws := t.idleDraws } ∧
      (t.taken = s.taken ∨
        s.seq = .frameSent ∧ s.latch.ports.txReady = true ∧ t.taken = s.taken ++ [s.offered])

/-- The invariant holds right after reset. -/
def Obligations.SafeStateAtReset : Prop := SafeState State.reset

/-- The invariant is kept by every cycle: canonical buffers, consistent result fields, no result shown while BUSY, and
what each sequencer state says of the hidden registers, the sent frame and the received bytes. The bound of `lat` is about
the model's own count (log entry 6). -/
def Obligations.SafeStateIsKept : Prop :=
  ∀ s t : State, SafeState s → step s = .next t → SafeState t

/-- R30, R31, R32, R36: which cycles write CRC_RESULT, TX_LEN, TXBUF, RX_COUNT and RXBUF. -/
def Obligations.ResultRegistersHaveFewWriters : Prop :=
  ∀ s t : State, s.latch.ports.rst = false → step s = .next t →
    (t.crcResult ≠ s.crcResult → s.performing .checksum = true ∨ s.performing .verify = true) ∧
    (t.txLen ≠ s.txLen ∨ t.txbuf ≠ s.txbuf →
      s.performing .encode = true ∨ s.performing .merge = true ∨ s.performing .build = true ∨
        s.performing .execute = true) ∧
    (t.rxCount ≠ s.rxCount →
      (s.busy = false ∧ s.latch.ports.writes = true ∧ regAt s.latch.ports.busAddr = .rxCount) ∨
      (s.op = .execute ∧ (s.seq = .awaitLen ∨ s.seq = .validated) ∧ t.seq = .idle)) ∧
    (t.rxbuf ≠ s.rxbuf →
      (s.busy = false ∧ s.latch.ports.writes = true ∧ ∃ i, regAt s.latch.ports.busAddr = .rxbuf i) ∨
      (s.op = .execute ∧ (s.seq = .awaitLen ∨ s.seq = .awaitBody) ∧ s.latch.ports.rxValid = true))

/-- R43, R61: the request registers do not change while an operation runs. -/
def Obligations.RequestRegistersAreFrozen : Prop :=
  ∀ s t : State, s.latch.ports.rst = false → s.busy = true → step s = .next t →
    t.func = s.func ∧ t.pcount = s.pcount ∧ t.timeout = s.timeout ∧ t.crcExpect = s.crcExpect ∧ t.slots = s.slots ∧
    (t.busy = true → t.op = s.op)

/-- R19, R118: a byte leaves the block only in FRAME_SENT with `tx_ready` = 1, and then exactly the byte offered, which is
`tx_data`, TXBUF[tx_idx]; `tx_valid` = 1 in FRAME_SENT alone. -/
def Obligations.BytesLeaveOnlyInFrameSent : Prop :=
  (∀ s : State, (s.txValid = true ↔ s.seq = .frameSent) ∧
    (s.txValid = true → s.txData = s.offered ∧
      ∀ b, Memory.byte? s.txbuf s.txIdx.toNat = some b → s.offered = b)) ∧
  ∀ s t : State, s.latch.ports.rst = false → (s.seq = .frameSent → s.op = .execute) → step s = .next t →
    (s.seq = .frameSent ∧ s.latch.ports.txReady = true → t.taken = s.taken ++ [s.offered]) ∧
    (¬(s.seq = .frameSent ∧ s.latch.ports.txReady = true) → t.taken = s.taken)

/-- R129: the outcomes each operation can complete with. -/
def Obligations.OutcomesOfEachOperation : Prop :=
  ∀ s t : State, s.latch.ports.rst = false → s.busy = true → step s = .next t → t.busy = false →
    t.outcome ∈ allowedOutcomes s.op

/-- R41, R128, R131: DONE is set exactly by a completion, and cleared only by a W1C write or an acceptance; the interrupt
line is DONE AND IE. -/
def Obligations.DoneAndInterrupt : Prop :=
  (∀ s : State, s.irq = true ↔ s.done = true ∧ s.ie = true) ∧
  ∀ s t : State, s.latch.ports.rst = false → step s = .next t →
    (s.busy = true → t.busy = false → t.done = true ∧ t.irq = t.ie) ∧
    (s.busy = false → t.busy = true → t.done = false ∧ t.irq = false) ∧
    (s.done = false → t.done = true → s.busy = true ∧ t.busy = false) ∧
    (s.done = true → t.done = false →
      (s.latch.ports.writes = true ∧ regAt s.latch.ports.busAddr = .status ∧
        s.latch.ports.busWdata.getLsbD 1 = true) ∨
      (s.busy = false ∧ s.latch.ports.writesCmd = true))

/-- R59: between a completion and the next accepted CMD write the results stay, but for a host write of RX_COUNT or
RXBUF itself. -/
def Obligations.ResultsStayUntilTheNextCommand : Prop :=
  ∀ s t : State, s.latch.ports.rst = false → s.busy = false → s.latch.ports.writesCmd = false → step s = .next t →
    t.busy = false ∧ t.outcome = s.outcome ∧ t.failCause = s.failCause ∧ t.result = s.result ∧ t.preErr = s.preErr ∧
    t.errSlot = s.errSlot ∧ t.verifyOk = s.verifyOk ∧ t.crcResult = s.crcResult ∧ t.txLen = s.txLen ∧
    t.txbuf = s.txbuf ∧
    (¬(s.latch.ports.writes = true ∧ regAt s.latch.ports.busAddr = .rxCount) → t.rxCount = s.rxCount) ∧
    (∀ i, ¬(s.latch.ports.writes = true ∧ regAt s.latch.ports.busAddr = .rxbuf i) →
      Memory.byte? t.rxbuf i = Memory.byte? s.rxbuf i)

/-- R45, R110, R132, R151: events that meet in one cycle. -/
def Obligations.EventsThatMeet : Prop :=
  ∀ s t : State, s.latch.ports.rst = false → step s = .next t →
    -- a byte in the last cycle of the length window is stored, and the window does not expire
    (s.op = .execute → s.seq = .awaitLen → s.timer = s.window - 1 → s.latch.ports.rxValid = true →
      t.busy = true ∧ Memory.byte? t.rxbuf 0 = some s.latch.ports.rxData) ∧
    -- a completion wins over a W1C write of DONE
    (s.busy = true → t.busy = false → t.done = true) ∧
    -- an acceptance wins over a stray byte
    (s.busy = false → s.latch.ports.writesCmd = true → t.strayRx = false) ∧
    -- a CMD write in the cycle of a completion is rejected
    (s.busy = true → t.busy = false → s.latch.ports.writesCmd = true → t.rejected = true)

/-! ### Runs -/

/-- R111, R117: COMPUTE lasts as many cycles as `lat` says before the operation's own, whatever the ports do short of
reset. That `lat` counts them is the model's choice (log entry 6). -/
def Obligations.ComputeLastsItsLatency : Prop :=
  ∀ (k : Nat) (s : State), s.seq = .compute → s.lat = k → (∀ p ∈ s.inputs.take k, p.rst = false) →
    ∃ t, Sys2Proof.core.run k s = .next t ∧ t.performing s.op = true ∧
      t.func = s.func ∧ t.pcount = s.pcount ∧ t.slots = s.slots ∧ t.timeout = s.timeout ∧ t.rxCount = s.rxCount ∧
      t.rxbuf = s.rxbuf ∧ t.txbuf = s.txbuf

/-- R110, R113: without a byte the length window lasts exactly its W cycles and then ends in RESPONSE_TIMEOUT. -/
def Obligations.LengthWindowExpires : Prop :=
  ∀ (k : Nat) (s : State), s.op = .execute → s.seq = .awaitLen → s.timer.toNat + k + 1 = s.window.toNat →
    (∀ p ∈ s.inputs.take (k + 1), p.rst = false ∧ p.rxValid = false) →
    (∀ j ≤ k, ∃ u, Sys2Proof.core.run j s = .next u ∧ u.seq = .awaitLen) ∧
    ∃ t, Sys2Proof.core.run (k + 1) s = .next t ∧ t.seq = .idle ∧ t.done = true ∧ t.outcome = .responseTimeout ∧
      t.failCause = .noLength ∧ t.result = 0x00 ∧ t.rxCount = 0 ∧ t.rxbuf = s.rxbuf

/-- R11, R114: the body window ends too, whatever bytes come or do not come. -/
def Obligations.BodyWindowEnds : Prop :=
  ∀ s : State, SafeState s → s.seq = .awaitBody →
    (∀ p ∈ s.inputs.take (s.window.toNat - s.timer.toNat), p.rst = false) →
    ∃ k t, 1 ≤ k ∧ k ≤ s.window.toNat - s.timer.toNat ∧ Sys2Proof.core.run k s = .next t ∧ t.seq = .validated

/-- R150: a peer that never takes a byte leaves EXECUTE in FRAME_SENT for ever; reset ends it. -/
def Obligations.UntakenFrameHangs : Prop :=
  (∀ (k : Nat) (s : State), s.op = .execute → s.seq = .frameSent → s.done = false →
    (∀ p ∈ s.inputs.take k, p.rst = false ∧ p.txReady = false) →
    ∃ t, Sys2Proof.core.run k s = .next t ∧ t.seq = .frameSent ∧ t.busy = true ∧ t.done = false ∧
      t.txIdx = s.txIdx ∧ t.taken = s.taken) ∧
  ∀ s : State, s.seq = .frameSent → s.latch.ports.rst = true → ∃ t, step s = .next t ∧ t.seq = .idle

/-- R116: an EXECUTE past COMPUTE ends with a result that is the classification of RXBUF[0..RX_COUNT), and TXBUF still
holds the frame that was sent. -/
def Obligations.ExecuteEndsAsClassified : Prop :=
  ∀ s t : State, SafeState s → s.latch.ports.rst = false → s.busy = true → s.seq ≠ .compute → step s = .next t →
    t.busy = false →
    ∃ bytes : List Byte, bytes.length = t.rxCount.toNat ∧ beginsWith t.rxbuf bytes ∧
      classify bytes = ⟨t.outcome, t.failCause, t.result⟩ ∧ sentFrame t = true

/-- R119, R43: nothing but the request registers, TIMEOUT and what the peer does decides an EXECUTE. Two blocks at the
same point of the same EXECUTE stay so, whatever their hosts do on the bus, and end alike. -/
def Obligations.ExecuteDependsOnRequestAndPeer : Prop :=
  ∀ s t s' t' : State, SafeState s → SafeState t → SameTransaction s t → s.busy = true →
    s.latch.ports.rst = false → t.latch.ports.rst = false →
    s.latch.ports.txReady = t.latch.ports.txReady → s.latch.ports.rxValid = t.latch.ports.rxValid →
    s.latch.ports.rxData = t.latch.ports.rxData → step s = .next s' → step t = .next t' →
    (s'.busy = true ∧ t'.busy = true ∧ SameTransaction s' t') ∨
    (s'.busy = false ∧ t'.busy = false ∧ SameResult (s.seq != .compute) s' t')

/-- R120: EXECUTE from the CMD write to its completion, against a peer that takes every byte at once and answers at once
with any response whose length byte is right. The peer has the frame, RXBUF and RX_COUNT the response, and STATUS its
classification. The number of cycles rests on the model's one fixed latency (log entry 6). -/
def Obligations.ExecuteEndToEnd : Prop :=
  ∀ (s : State) (frame resp : List Byte) (rest : List Ports),
    s.seq = .idle → build s.func s.pcount s.slots.toList = .ok frame →
    resp.head? = some (BitVec.ofNat 8 resp.length) → 5 ≤ resp.length → resp.length ≤ 255 →
    resp.length - 1 ≤ s.window.toNat →
    s.inputs = hostStart .execute ++ peerSilentCycles Config.localLatency ++ peerTakesCycles frame.length ++
      peerSendsCycles resp ++ peerSilentCycles Config.localLatency ++ rest →
    ∃ t, Sys2Proof.core.run (1 + Config.localLatency + frame.length + resp.length + Config.localLatency) s = .next t ∧
      t.seq = .idle ∧ t.done = true ∧ classify resp = ⟨t.outcome, t.failCause, t.result⟩ ∧
      t.rxCount.toNat = resp.length ∧ beginsWith t.rxbuf resp ∧
      t.txLen.toNat = frame.length ∧ beginsWith t.txbuf frame ∧ t.taken = s.taken ++ frame ∧
      t.strayRx = false ∧ t.inputs = rest
end

