-- ==== Sys2Proof/Laws/Crc.lean ====
section
/-! SUPPORT. Laws of the CRC register: it is linear, and a shift loses nothing. -/

namespace Sys2Proof.Machine

@[simp] theorem crcShift_zero : crcShift 0 = 0 := by decide

/-- A shift is linear. -/
theorem crcShift_xor (a b : BitVec 16) : crcShift (a ^^^ b) = crcShift a ^^^ crcShift b := by
  unfold crcShift
  rw [BitVec.getLsbD_xor, BitVec.shiftLeft_xor_distrib]
  cases a.getLsbD 15 <;> cases b.getLsbD 15 <;> simp <;> ac_nf <;> simp

theorem crcShifts_xor (n : Nat) (a b : BitVec 16) : crcShifts n (a ^^^ b) = crcShifts n a ^^^ crcShifts n b := by
  induction n generalizing a b with
  | zero => rfl
  | succ n ih => rw [crcShifts, crcShift_xor, ih]; rfl

@[simp] theorem crcShifts_zero (n : Nat) : crcShifts n 0 = 0 := by
  induction n with
  | zero => rfl
  | succ n ih => rw [crcShifts, crcShift_zero, ih]

theorem crcShifts_add (n k : Nat) (c : BitVec 16) : crcShifts (n + k) c = crcShifts k (crcShifts n c) := by
  induction n generalizing c with
  | zero => simp [crcShifts]
  | succ n ih => rw [Nat.succ_add]; exact ih _

/-- The polynomial has the term 1, so a shift maps only 0 to 0. -/
theorem crcShift_eq_zero (c : BitVec 16) : crcShift c = 0 ↔ c = 0 := by
  constructor
  · intro h
    unfold crcShift at h
    split at h
    · have h0 := congrArg (fun v => BitVec.getLsbD v 0) h
      simp [crcPoly] at h0
    · next hb =>
      have hb' : c.getLsbD 15 = false := by simpa using hb
      apply BitVec.eq_of_getLsbD_eq
      intro i hi
      by_cases h15 : i = 15
      · subst h15; simpa using hb'
      · have := congrArg (fun v => BitVec.getLsbD v (i + 1)) h
        simp only [BitVec.getLsbD_shiftLeft] at this
        simpa [show i + 1 < 16 by omega] using this
  · rintro rfl; exact crcShift_zero

theorem crcShifts_eq_zero (n : Nat) (c : BitVec 16) : crcShifts n c = 0 ↔ c = 0 := by
  induction n generalizing c with
  | zero => rfl
  | succ n ih => rw [crcShifts, ih, crcShift_eq_zero]

/-- `n` shifts of a value whose set bits all leave at the bottom move it up. -/
theorem crcShifts_byte (b : Byte) : crcShifts 8 (b.setWidth 16) = b.setWidth 16 <<< 8 := by
  revert b; decide +kernel

theorem crcUpdate_xor (c d : BitVec 16) (a b : Byte) :
    crcUpdate (c ^^^ d) (a ^^^ b) = crcUpdate c a ^^^ crcUpdate d b := by
  unfold crcUpdate
  rw [← crcShifts_xor]
  congr 1
  rw [BitVec.setWidth_xor, BitVec.shiftLeft_xor_distrib]
  ac_nf

/-- Two update steps with the bytes of a 16-bit value are sixteen shifts. -/
theorem crcUpdate_two (c w : BitVec 16) :
    crcUpdate (crcUpdate c (hiByte w)) (loByte w) = crcShifts 16 (c ^^^ w) := by
  unfold crcUpdate
  rw [← crcShifts_byte (loByte w), ← crcShifts_xor, ← crcShifts_add]
  congr 1
  rw [BitVec.xor_assoc]
  congr 1
  apply BitVec.eq_of_getLsbD_eq
  intro i hi
  simp only [hiByte, loByte, BitVec.getLsbD_xor, BitVec.getLsbD_shiftLeft, BitVec.getLsbD_setWidth,
    BitVec.getLsbD_extractLsb']
  by_cases h : i < 8
  · simp [h, hi]
  · simp only [h, hi, decide_true, decide_false, Bool.not_false, Bool.true_and, Bool.false_and, Bool.xor_false]
    rw [show 8 + (i - 8) = i by omega]
    simp [show i - 8 < 8 by omega, show i - 8 < 16 by omega]

theorem crc16_append (s t : List Byte) : crc16 (s ++ t) = t.foldl crcUpdate (crc16 s) := by
  simp [crc16, List.foldl_append]

@[simp] theorem crc16_nil : crc16 [] = 0 := rfl

@[simp] theorem hiByte_append_loByte (w : BitVec 16) : hiByte w ++ loByte w = w := by
  unfold hiByte loByte
  apply BitVec.eq_of_getLsbD_eq
  intro i hi
  rw [BitVec.getLsbD_append]
  by_cases h : i < 8
  · simp [h]
  · simp [h, show i - 8 < 8 by omega, show 8 + (i - 8) = i by omega]

end Sys2Proof.Machine
end

