-- ==== Sys2Proof/Laws/Codec.lean ====
section
/-! SUPPORT. Laws of the encodings: bit fields, groups, parameter areas and frames. -/

namespace Sys2Proof

open Machine

/-! ### Bit fields -/

theorem append_slices16 (v : BitVec 16) : v.extractLsb' 8 8 ++ v.extractLsb' 0 8 = v := hiByte_append_loByte v

theorem append_slices32 (v : BitVec 32) :
    v.extractLsb' 24 8 ++ v.extractLsb' 16 8 ++ v.extractLsb' 8 8 ++ v.extractLsb' 0 8 = v := by
  apply BitVec.eq_of_getLsbD_eq
  intro i hi
  simp only [BitVec.getLsbD_append, BitVec.getLsbD_extractLsb']
  by_cases h1 : i < 8
  · simp [h1]
  · by_cases h2 : i < 16
    · simp [h1, show i - 8 < 8 by omega, show 8 + (i - 8) = i by omega]
    · by_cases h3 : i < 24
      · simp [h1, show ¬ i - 8 < 8 by omega, show i - 8 - 8 < 8 by omega, show 16 + (i - 8 - 8) = i by omega]
      · simp [h1, show ¬ i - 8 < 8 by omega, show ¬ i - 8 - 8 < 8 by omega, show i - 8 - 8 - 8 < 8 by omega, show 24 + (i - 8 - 8 - 8) = i by omega]

theorem low_append (a : BitVec 12) (n : BitVec 4) : (a ++ n).extractLsb' 0 4 = n := by
  apply BitVec.eq_of_getLsbD_eq
  intro i hi
  rw [BitVec.getLsbD_extractLsb', BitVec.getLsbD_append]
  simp [hi]

theorem high_append (a : BitVec 12) (n : BitVec 4) : (a ++ n).extractLsb' 4 12 = a := by
  apply BitVec.eq_of_getLsbD_eq
  intro i hi
  rw [BitVec.getLsbD_extractLsb', BitVec.getLsbD_append]
  simp [hi]

theorem append_high_low (w : BitVec 16) : w.extractLsb' 4 12 ++ w.extractLsb' 0 4 = w := by
  apply BitVec.eq_of_getLsbD_eq
  intro i hi
  rw [BitVec.getLsbD_append]
  by_cases h : i < 4
  · simp [h]
  · simp [h, show i - 4 < 12 by omega, show 4 + (i - 4) = i by omega]

/-- A value in range comes back from its narrow field. -/
theorem setWidth_back {w : Nat} (v : Word) (h : v.toNat < 2 ^ w) : (v.setWidth w).setWidth 32 = v := by
  apply BitVec.eq_of_toNat_eq
  simp only [BitVec.toNat_setWidth]
  rw [Nat.mod_eq_of_lt h, Nat.mod_eq_of_lt v.isLt]

theorem extract_low8 (v : Word) : v.extractLsb' 0 8 = v.setWidth 8 := by
  apply BitVec.eq_of_getLsbD_eq; intro i hi; simp [hi]

theorem extract_high16 (v : Word) : (v.setWidth 16).extractLsb' 8 8 = v.extractLsb' 8 8 := by
  apply BitVec.eq_of_getLsbD_eq; intro i hi
  simp only [BitVec.getLsbD_extractLsb', BitVec.getLsbD_setWidth, hi, show 8 + i < 16 by omega, decide_true, Bool.true_and]

theorem extract_low16 (v : Word) : (v.setWidth 16).extractLsb' 0 8 = v.setWidth 8 := by
  apply BitVec.eq_of_getLsbD_eq; intro i hi
  simp only [BitVec.getLsbD_extractLsb', BitVec.getLsbD_setWidth, Nat.zero_add, hi, show i < 16 by omega, decide_true, Bool.true_and]

/-! ### Parameters and groups -/

theorem valid_iff (p : Param) : p.valid = true ↔
    (p.tag = 1#8 ∧ p.value.toNat ≤ 0xFF) ∨ (p.tag = 2#8 ∧ p.value.toNat ≤ 0xFFFF) ∨ p.tag = 3#8 := by
  simp [Param.valid, or_assoc]

/-- A valid parameter is one of three shapes (R64, R81). -/
theorem valid_cases (p : Param) (h : p.valid = true) :
    (∃ v : BitVec 8, p = ⟨1, v.setWidth 32⟩) ∨ (∃ v : BitVec 16, p = ⟨2, v.setWidth 32⟩) ∨ (∃ v : BitVec 32, p = ⟨3, v⟩) := by
  obtain ⟨t, v⟩ := p
  rw [valid_iff] at h
  rcases h with ⟨h1, h2⟩ | ⟨h1, h2⟩ | h1 <;> simp only at h1 <;> subst h1
  · left; exact ⟨v.setWidth 8, by rw [setWidth_back v (by simp at h2 ⊢; omega)]; rfl⟩
  · right; left; exact ⟨v.setWidth 16, by rw [setWidth_back v (by simp at h2 ⊢; omega)]; rfl⟩
  · right; right; exact ⟨v, rfl⟩

/-- A valid parameter has its lone row, of 2 to 5 bytes (R66). -/
theorem loneRow_valid (p : Param) (h : p.valid = true) :
    ∃ i, loneRow p = some i ∧ rowParams i = [p] ∧ groupBytes i ≠ [] ∧ 2 ≤ (groupBytes i).length ∧ (groupBytes i).length ≤ 5 := by
  rcases valid_cases p h with ⟨v, rfl⟩ | ⟨v, rfl⟩ | ⟨v, rfl⟩ <;>
    simp [loneRow, typeOfTag, rowParams, groupBytes, be16, be32]

/-- Two valid parameters have their pair row, of 3 to 9 bytes (R67). -/
theorem pairRow_valid (p q : Param) (h : p.valid = true) (h' : q.valid = true) :
    ∃ i, pairRow p q = some i ∧ rowParams i = [p, q] ∧ groupBytes i ≠ [] ∧ 3 ≤ (groupBytes i).length ∧ (groupBytes i).length ≤ 9 := by
  rcases valid_cases p h with ⟨v, rfl⟩ | ⟨v, rfl⟩ | ⟨v, rfl⟩ <;>
  rcases valid_cases q h' with ⟨w, rfl⟩ | ⟨w, rfl⟩ | ⟨w, rfl⟩ <;>
    simp [pairRow, typeOfTag, rowParams, groupBytes, be16, be32]

/-- The decoder reads a group's own bytes, whatever follows them (R68). -/
theorem decodeGroup_row (i : Instr) (rest : List Byte) (h : groupBytes i ≠ []) : decodeGroup (groupBytes i ++ rest) = .ok (i, rest) := by
  cases i <;> first | exact absurd rfl h | skip
  all_goals
    simp [groupBytes, decodeGroup, nibbleType, typeOfTag, takeValue, be16, be32, loneRow, pairRow, tagOf, append_slices16, append_slices32]

/-- The decoder reads a parameter area's own bytes (R68). -/
theorem decodeArea_areaBytes (ps : List Param) (h : ps.all Param.valid = true) : decodeArea ps.length (areaBytes ps) = .ok ps := by
  induction ps using areaBytes.induct with
  | case1 => rfl
  | case2 p =>
    obtain ⟨i, e, hr, hg, _⟩ := loneRow_valid p (by simpa using h)
    have := decodeGroup_row i [] hg
    simp only [List.append_nil] at this
    simp [areaBytes, e, decodeArea, this, hr]
  | case3 p q rest ih =>
    simp at h
    obtain ⟨i, e, hr, hg, _⟩ := pairRow_valid p q h.1 h.2.1
    simp [areaBytes, e, decodeArea, decodeGroup_row i _ hg, hr]
    rw [ih (by simpa using h.2.2)]

/-- An area of n valid parameters has at most ⌈n/2⌉ groups of nine bytes (R102). -/
theorem areaBytes_length (ps : List Param) (h : ps.all Param.valid = true) : 2 * (areaBytes ps).length ≤ 9 * ps.length + 1 := by
  induction ps using areaBytes.induct with
  | case1 => simp [areaBytes]
  | case2 p =>
    obtain ⟨i, e, hr, hg, h1, h2⟩ := loneRow_valid p (by simpa using h)
    simp [areaBytes, e]; omega
  | case3 p q rest ih =>
    simp at h
    obtain ⟨i, e, hr, hg, h1, h2⟩ := pairRow_valid p q h.1 h.2.1
    have := ih (by simpa using h.2.2)
    simp [areaBytes, e]; omega

/-! ### Frames -/

/-- A frame with its own CRC has residual zero (R93). -/
theorem crc16_withCrc (m : List Byte) : crc16 (withCrc m) = 0 := by
  unfold withCrc
  rw [crc16_append]
  show crcUpdate (crcUpdate _ _) _ = 0
  rw [crcUpdate_two]; simpa using crcShifts_zero 16

theorem withCrc_length (m : List Byte) : (withCrc m).length = m.length + 2 := by simp [withCrc]

theorem take_withCrc (m : List Byte) : (withCrc m).take ((withCrc m).length - 2) = m := by
  rw [withCrc_length]; simp [withCrc]

theorem toNat_len (n : Nat) (h : n < 256) : (BitVec.ofNat 8 n).toNat = n := by simp; omega

/-- A frame with its own length and CRC passes the checks (R70, R71). -/
theorem checkFrame_withCrc (len : Byte) (m : List Byte) (h : len.toNat = m.length + 3) (h2 : 2 ≤ m.length) :
    checkFrame (withCrc (len :: m)) = .ok () := by
  have hl := withCrc_length (len :: m)
  have hc := crc16_withCrc (len :: m)
  unfold checkFrame
  have : withCrc (len :: m) = len :: (m ++ [hiByte (crc16 (len :: m)), loByte (crc16 (len :: m))]) := rfl
  rw [this] at hl hc ⊢
  simp only [hc, hl]
  rw [if_neg (by omega), if_neg (by simp; omega)]
  simp

theorem requestBytes_length (fc : BitVec 12) (ps : List Param) : (requestBytes fc ps).length = 5 + (areaBytes ps).length := by
  simp [requestBytes, withCrc, be16]; omega

theorem responseBytes_length (p : List Byte) : (responseBytes p).length = p.length + 3 := by
  simp [responseBytes, withCrc]

end Sys2Proof
end

