-- ==== Sys2Proof/Laws/Memory.lean ====
section
/-! SUPPORT. Laws of the frame buffers: a read after a write, the canonical form, and what an operation reads. -/

namespace Sys2Proof.Machine

@[simp] theorem Memory.byte?_nil (i : Nat) : Memory.byte? [] i = none := rfl

theorem Memory.byte?_cons (j : Nat) (b : Byte) (m : Memory) (i : Nat) :
    Memory.byte? ((j, b) :: m) i = if i = j then some b else Memory.byte? m i := rfl

/-- A read after a write of one byte. -/
@[simp] theorem Memory.byte?_insert (i : Nat) (b : Byte) (m : Memory) (k : Nat) :
    Memory.byte? (Memory.insert i b m) k = if k = i then some b else Memory.byte? m k := by
  induction m with
  | nil => rfl
  | cons c rest ih =>
    obtain ⟨j, d⟩ := c
    unfold Memory.insert
    split
    · rfl
    · split
      · subst_vars; simp only [Memory.byte?_cons]; split <;> rfl
      · simp only [Memory.byte?_cons, ih]
        split <;> split <;> first | rfl | omega

theorem Memory.byte?_write (size i : Nat) (b : Byte) (m : Memory) (k : Nat) :
    Memory.byte? (Memory.write size i b m) k = if k = i ∧ i < size then some b else Memory.byte? m k := by
  unfold Memory.write
  by_cases h : i < size <;> simp [h]

/-- A read after a write of consecutive bytes that fit the buffer. -/
theorem Memory.byte?_writeAll (size i : Nat) (bs : List Byte) (m : Memory) (k : Nat) (h : i + bs.length ≤ size) :
    Memory.byte? (Memory.writeAll size i bs m) k =
      if i ≤ k ∧ k < i + bs.length then bs[k - i]? else Memory.byte? m k := by
  induction bs generalizing i m with
  | nil => simp only [Memory.writeAll, List.length_nil]; rw [if_neg (by omega)]
  | cons b bs ih =>
    simp only [List.length_cons] at h
    rw [Memory.writeAll, ih (i + 1) _ (by omega), Memory.byte?_write]
    simp only [List.length_cons]
    by_cases hk : k = i
    · subst hk; rw [if_neg (by omega), if_pos ⟨rfl, by omega⟩, if_pos (by omega)]; simp
    · by_cases h2 : i + 1 ≤ k ∧ k < i + 1 + bs.length
      · rw [if_pos h2, if_pos (by omega), show k - i = k - (i + 1) + 1 by omega]; simp
      · rw [if_neg h2, if_neg (by omega), if_neg (by omega)]

/-! ### The canonical form -/

/-- The indices of a canonical buffer are at least the first and below the size. -/
theorem Memory.wf_cons_iff (size i : Nat) (b : Byte) (m : Memory) :
    Memory.wf size ((i, b) :: m) = true ↔
      i < size ∧ Memory.wf size m = true ∧ ∀ c ∈ m.head?, i < c.1 := by
  induction m generalizing i b with
  | nil => simp [Memory.wf]
  | cons c rest ih =>
    obtain ⟨j, d⟩ := c
    simp only [Memory.wf, Bool.and_eq_true, decide_eq_true_eq, List.head?_cons, Option.mem_def, Option.some.injEq,
      forall_eq']
    rw [ih]
    constructor
    · rintro ⟨h1, h2⟩; exact ⟨by omega, h2, h1⟩
    · rintro ⟨_, h2, h3⟩; exact ⟨h3, h2⟩

theorem Memory.head?_insert (i : Nat) (b : Byte) (m : Memory) :
    ∀ c ∈ (Memory.insert i b m).head?, c.1 = i ∨ c ∈ m.head? := by
  cases m with
  | nil => simp [Memory.insert]
  | cons c rest =>
    obtain ⟨j, d⟩ := c
    unfold Memory.insert
    split <;> [skip; split] <;> simp

/-- Writing a byte within the buffer keeps the canonical form. -/
theorem Memory.wf_insert (size i : Nat) (b : Byte) (m : Memory) (hi : i < size) (h : Memory.wf size m = true) :
    Memory.wf size (Memory.insert i b m) = true := by
  induction m with
  | nil => simp [Memory.insert, Memory.wf, hi]
  | cons c rest ih =>
    obtain ⟨j, d⟩ := c
    rw [Memory.wf_cons_iff] at h
    unfold Memory.insert
    split
    · next hlt =>
      rw [Memory.wf_cons_iff, Memory.wf_cons_iff]
      exact ⟨hi, h, by simpa using hlt⟩
    · split
      · next _ heq => subst heq; rw [Memory.wf_cons_iff]; exact h
      · rw [Memory.wf_cons_iff]
        refine ⟨h.1, ih h.2.1, fun c hc => ?_⟩
        rcases Memory.head?_insert i b rest c hc with h1 | h1
        · omega
        · exact h.2.2 c h1

@[simp] theorem Memory.wf_write (size i : Nat) (b : Byte) (m : Memory) (h : Memory.wf size m = true) :
    Memory.wf size (Memory.write size i b m) = true := by
  unfold Memory.write
  split
  · exact Memory.wf_insert _ _ _ _ ‹_› h
  · exact h

@[simp] theorem Memory.wf_writeAll (size i : Nat) (bs : List Byte) (m : Memory) (h : Memory.wf size m = true) :
    Memory.wf size (Memory.writeAll size i bs m) = true := by
  induction bs generalizing i m with
  | nil => exact h
  | cons b bs ih => exact ih _ _ (Memory.wf_write _ _ _ _ h)

/-- A canonical buffer has no byte at or above its size. -/
theorem Memory.byte?_of_wf (size : Nat) (m : Memory) (h : Memory.wf size m = true) (i : Nat) (hi : size ≤ i) :
    Memory.byte? m i = none := by
  induction m with
  | nil => rfl
  | cons c rest ih =>
    obtain ⟨j, d⟩ := c
    rw [Memory.wf_cons_iff] at h
    rw [Memory.byte?_cons, if_neg (by omega), ih h.2.1]

/-! ### What an operation reads -/

@[simp] theorem Memory.snapshot_length (m : Memory) (n d : Nat) : (Memory.snapshot m n d).length = n := by
  simp [Memory.snapshot]

theorem Memory.snapshot_getElem? (m : Memory) (n d i : Nat) :
    (Memory.snapshot m n d)[i]? = if i < n then some (Memory.byteOr m i (d + i)) else none := by
  unfold Memory.snapshot
  by_cases h : i < n <;> simp [h]

/-- Where the bytes were written, an operation reads exactly them, whatever the free values are. -/
theorem Memory.snapshot_of_beginsWith (m : Memory) (bytes : List Byte) (d : Nat) (h : beginsWith m bytes) :
    Memory.snapshot m bytes.length d = bytes := by
  apply List.ext_getElem?
  intro i
  rw [Memory.snapshot_getElem?]
  split
  · next hi => simp [Memory.byteOr, h i hi, hi]
  · next hi => rw [List.getElem?_eq_none (by omega)]

theorem beginsWith_writeAll (size : Nat) (bs : List Byte) (m : Memory) (h : bs.length ≤ size) :
    beginsWith (Memory.writeAll size 0 bs m) bs := by
  intro i hi
  rw [Memory.byte?_writeAll _ _ _ _ _ (by omega), if_pos (by omega)]; simp

theorem holdsBytes_iff (m : Memory) (bytes : List Byte) : holdsBytes m bytes = true ↔ beginsWith m bytes := by
  simp [holdsBytes, beginsWith]

end Sys2Proof.Machine
end

