-- ==== Sys2Proof/Laws/State.lean ====
section
/-! SUPPORT. What each named update of the state leaves in each field. -/

namespace Sys2Proof.Machine

/-! The acceptance (R42). -/
@[simp] theorem accept_seq (o : Op) (s : State) : (accept o s).seq = .compute := rfl
@[simp] theorem accept_op (o : Op) (s : State) : (accept o s).op = o := rfl
@[simp] theorem accept_txIdx (o : Op) (s : State) : (accept o s).txIdx = s.txIdx := rfl
@[simp] theorem accept_rxN (o : Op) (s : State) : (accept o s).rxN = s.rxN := rfl
@[simp] theorem accept_rxLen (o : Op) (s : State) : (accept o s).rxLen = s.rxLen := rfl
@[simp] theorem accept_timer (o : Op) (s : State) : (accept o s).timer = s.timer := rfl
@[simp] theorem accept_lat (o : Op) (s : State) : (accept o s).lat = Config.localLatency - 1 := rfl
@[simp] theorem accept_done (o : Op) (s : State) : (accept o s).done = false := rfl
@[simp] theorem accept_rejected (o : Op) (s : State) : (accept o s).rejected = false := rfl
@[simp] theorem accept_verifyOk (o : Op) (s : State) : (accept o s).verifyOk = false := rfl
@[simp] theorem accept_strayRx (o : Op) (s : State) : (accept o s).strayRx = false := rfl
@[simp] theorem accept_outcome (o : Op) (s : State) : (accept o s).outcome = .none := rfl
@[simp] theorem accept_preErr (o : Op) (s : State) : (accept o s).preErr = .none := rfl
@[simp] theorem accept_failCause (o : Op) (s : State) : (accept o s).failCause = .none := rfl
@[simp] theorem accept_errSlot (o : Op) (s : State) : (accept o s).errSlot = 0 := rfl
@[simp] theorem accept_result (o : Op) (s : State) : (accept o s).result = 0x00 := rfl
@[simp] theorem accept_ie (o : Op) (s : State) : (accept o s).ie = s.ie := rfl
@[simp] theorem accept_func (o : Op) (s : State) : (accept o s).func = s.func := rfl
@[simp] theorem accept_pcount (o : Op) (s : State) : (accept o s).pcount = s.pcount := rfl
@[simp] theorem accept_timeout (o : Op) (s : State) : (accept o s).timeout = s.timeout := rfl
@[simp] theorem accept_crcExpect (o : Op) (s : State) : (accept o s).crcExpect = s.crcExpect := rfl
@[simp] theorem accept_crcResult (o : Op) (s : State) : (accept o s).crcResult = s.crcResult := rfl
@[simp] theorem accept_txLen (o : Op) (s : State) : (accept o s).txLen = s.txLen := rfl
@[simp] theorem accept_rxCount (o : Op) (s : State) : (accept o s).rxCount = s.rxCount := rfl
@[simp] theorem accept_slots (o : Op) (s : State) : (accept o s).slots = s.slots := rfl
@[simp] theorem accept_txbuf (o : Op) (s : State) : (accept o s).txbuf = s.txbuf := rfl
@[simp] theorem accept_rxbuf (o : Op) (s : State) : (accept o s).rxbuf = s.rxbuf := rfl
@[simp] theorem accept_ports (o : Op) (s : State) : (accept o s).ports = s.ports := rfl
@[simp] theorem accept_inputs (o : Op) (s : State) : (accept o s).inputs = s.inputs := rfl
@[simp] theorem accept_rdata (o : Op) (s : State) : (accept o s).rdata = s.rdata := rfl
@[simp] theorem accept_taken (o : Op) (s : State) : (accept o s).taken = s.taken := rfl
@[simp] theorem accept_opDraws (o : Op) (s : State) : (accept o s).opDraws = s.opDraws := rfl
@[simp] theorem accept_hostDraws (o : Op) (s : State) : (accept o s).hostDraws = s.hostDraws := rfl
@[simp] theorem accept_idleDraws (o : Op) (s : State) : (accept o s).idleDraws = s.idleDraws := rfl

/-! A waiting cycle (R111, R115). -/
@[simp] theorem waitCycle_seq (s : State) : (waitCycle s).seq = s.seq := rfl
@[simp] theorem waitCycle_op (s : State) : (waitCycle s).op = s.op := rfl
@[simp] theorem waitCycle_txIdx (s : State) : (waitCycle s).txIdx = s.txIdx := rfl
@[simp] theorem waitCycle_rxN (s : State) : (waitCycle s).rxN = s.rxN := rfl
@[simp] theorem waitCycle_rxLen (s : State) : (waitCycle s).rxLen = s.rxLen := rfl
@[simp] theorem waitCycle_timer (s : State) : (waitCycle s).timer = s.timer := rfl
@[simp] theorem waitCycle_lat (s : State) : (waitCycle s).lat = s.lat - 1 := rfl
@[simp] theorem waitCycle_done (s : State) : (waitCycle s).done = s.done := rfl
@[simp] theorem waitCycle_rejected (s : State) : (waitCycle s).rejected = s.rejected := rfl
@[simp] theorem waitCycle_verifyOk (s : State) : (waitCycle s).verifyOk = s.verifyOk := rfl
@[simp] theorem waitCycle_strayRx (s : State) : (waitCycle s).strayRx = s.strayRx := rfl
@[simp] theorem waitCycle_outcome (s : State) : (waitCycle s).outcome = s.outcome := rfl
@[simp] theorem waitCycle_preErr (s : State) : (waitCycle s).preErr = s.preErr := rfl
@[simp] theorem waitCycle_failCause (s : State) : (waitCycle s).failCause = s.failCause := rfl
@[simp] theorem waitCycle_errSlot (s : State) : (waitCycle s).errSlot = s.errSlot := rfl
@[simp] theorem waitCycle_result (s : State) : (waitCycle s).result = s.result := rfl
@[simp] theorem waitCycle_ie (s : State) : (waitCycle s).ie = s.ie := rfl
@[simp] theorem waitCycle_func (s : State) : (waitCycle s).func = s.func := rfl
@[simp] theorem waitCycle_pcount (s : State) : (waitCycle s).pcount = s.pcount := rfl
@[simp] theorem waitCycle_timeout (s : State) : (waitCycle s).timeout = s.timeout := rfl
@[simp] theorem waitCycle_crcExpect (s : State) : (waitCycle s).crcExpect = s.crcExpect := rfl
@[simp] theorem waitCycle_crcResult (s : State) : (waitCycle s).crcResult = s.crcResult := rfl
@[simp] theorem waitCycle_txLen (s : State) : (waitCycle s).txLen = s.txLen := rfl
@[simp] theorem waitCycle_rxCount (s : State) : (waitCycle s).rxCount = s.rxCount := rfl
@[simp] theorem waitCycle_slots (s : State) : (waitCycle s).slots = s.slots := rfl
@[simp] theorem waitCycle_txbuf (s : State) : (waitCycle s).txbuf = s.txbuf := rfl
@[simp] theorem waitCycle_rxbuf (s : State) : (waitCycle s).rxbuf = s.rxbuf := rfl
@[simp] theorem waitCycle_ports (s : State) : (waitCycle s).ports = s.ports := rfl
@[simp] theorem waitCycle_inputs (s : State) : (waitCycle s).inputs = s.inputs := rfl
@[simp] theorem waitCycle_rdata (s : State) : (waitCycle s).rdata = s.rdata := rfl
@[simp] theorem waitCycle_taken (s : State) : (waitCycle s).taken = s.taken := rfl
@[simp] theorem waitCycle_opDraws (s : State) : (waitCycle s).opDraws = s.opDraws := rfl
@[simp] theorem waitCycle_hostDraws (s : State) : (waitCycle s).hostDraws = s.hostDraws := rfl
@[simp] theorem waitCycle_idleDraws (s : State) : (waitCycle s).idleDraws = s.idleDraws := rfl

/-! The completion (R128). -/
@[simp] theorem complete_seq (s : State) : (complete s).seq = .idle := rfl
@[simp] theorem complete_op (s : State) : (complete s).op = s.op := rfl
@[simp] theorem complete_txIdx (s : State) : (complete s).txIdx = s.txIdx := rfl
@[simp] theorem complete_rxN (s : State) : (complete s).rxN = s.rxN := rfl
@[simp] theorem complete_rxLen (s : State) : (complete s).rxLen = s.rxLen := rfl
@[simp] theorem complete_timer (s : State) : (complete s).timer = s.timer := rfl
@[simp] theorem complete_lat (s : State) : (complete s).lat = s.lat := rfl
@[simp] theorem complete_done (s : State) : (complete s).done = true := rfl
@[simp] theorem complete_rejected (s : State) : (complete s).rejected = s.rejected := rfl
@[simp] theorem complete_verifyOk (s : State) : (complete s).verifyOk = s.verifyOk := rfl
@[simp] theorem complete_strayRx (s : State) : (complete s).strayRx = s.strayRx := rfl
@[simp] theorem complete_outcome (s : State) : (complete s).outcome = s.outcome := rfl
@[simp] theorem complete_preErr (s : State) : (complete s).preErr = s.preErr := rfl
@[simp] theorem complete_failCause (s : State) : (complete s).failCause = s.failCause := rfl
@[simp] theorem complete_errSlot (s : State) : (complete s).errSlot = s.errSlot := rfl
@[simp] theorem complete_result (s : State) : (complete s).result = s.result := rfl
@[simp] theorem complete_ie (s : State) : (complete s).ie = s.ie := rfl
@[simp] theorem complete_func (s : State) : (complete s).func = s.func := rfl
@[simp] theorem complete_pcount (s : State) : (complete s).pcount = s.pcount := rfl
@[simp] theorem complete_timeout (s : State) : (complete s).timeout = s.timeout := rfl
@[simp] theorem complete_crcExpect (s : State) : (complete s).crcExpect = s.crcExpect := rfl
@[simp] theorem complete_crcResult (s : State) : (complete s).crcResult = s.crcResult := rfl
@[simp] theorem complete_txLen (s : State) : (complete s).txLen = s.txLen := rfl
@[simp] theorem complete_rxCount (s : State) : (complete s).rxCount = s.rxCount := rfl
@[simp] theorem complete_slots (s : State) : (complete s).slots = s.slots := rfl
@[simp] theorem complete_txbuf (s : State) : (complete s).txbuf = s.txbuf := rfl
@[simp] theorem complete_rxbuf (s : State) : (complete s).rxbuf = s.rxbuf := rfl
@[simp] theorem complete_ports (s : State) : (complete s).ports = s.ports := rfl
@[simp] theorem complete_inputs (s : State) : (complete s).inputs = s.inputs := rfl
@[simp] theorem complete_rdata (s : State) : (complete s).rdata = s.rdata := rfl
@[simp] theorem complete_taken (s : State) : (complete s).taken = s.taken := rfl
@[simp] theorem complete_opDraws (s : State) : (complete s).opDraws = s.opDraws := rfl
@[simp] theorem complete_hostDraws (s : State) : (complete s).hostDraws = s.hostDraws := rfl
@[simp] theorem complete_idleDraws (s : State) : (complete s).idleDraws = s.idleDraws := rfl

/-! The completion with OUTCOME = NONE. -/
@[simp] theorem completeNone_seq (s : State) : (completeNone s).seq = .idle := rfl
@[simp] theorem completeNone_op (s : State) : (completeNone s).op = s.op := rfl
@[simp] theorem completeNone_txIdx (s : State) : (completeNone s).txIdx = s.txIdx := rfl
@[simp] theorem completeNone_rxN (s : State) : (completeNone s).rxN = s.rxN := rfl
@[simp] theorem completeNone_rxLen (s : State) : (completeNone s).rxLen = s.rxLen := rfl
@[simp] theorem completeNone_timer (s : State) : (completeNone s).timer = s.timer := rfl
@[simp] theorem completeNone_lat (s : State) : (completeNone s).lat = s.lat := rfl
@[simp] theorem completeNone_done (s : State) : (completeNone s).done = true := rfl
@[simp] theorem completeNone_rejected (s : State) : (completeNone s).rejected = s.rejected := rfl
@[simp] theorem completeNone_verifyOk (s : State) : (completeNone s).verifyOk = s.verifyOk := rfl
@[simp] theorem completeNone_strayRx (s : State) : (completeNone s).strayRx = s.strayRx := rfl
@[simp] theorem completeNone_outcome (s : State) : (completeNone s).outcome = .none := rfl
@[simp] theorem completeNone_preErr (s : State) : (completeNone s).preErr = s.preErr := rfl
@[simp] theorem completeNone_failCause (s : State) : (completeNone s).failCause = s.failCause := rfl
@[simp] theorem completeNone_errSlot (s : State) : (completeNone s).errSlot = s.errSlot := rfl
@[simp] theorem completeNone_result (s : State) : (completeNone s).result = s.result := rfl
@[simp] theorem completeNone_ie (s : State) : (completeNone s).ie = s.ie := rfl
@[simp] theorem completeNone_func (s : State) : (completeNone s).func = s.func := rfl
@[simp] theorem completeNone_pcount (s : State) : (completeNone s).pcount = s.pcount := rfl
@[simp] theorem completeNone_timeout (s : State) : (completeNone s).timeout = s.timeout := rfl
@[simp] theorem completeNone_crcExpect (s : State) : (completeNone s).crcExpect = s.crcExpect := rfl
@[simp] theorem completeNone_crcResult (s : State) : (completeNone s).crcResult = s.crcResult := rfl
@[simp] theorem completeNone_txLen (s : State) : (completeNone s).txLen = s.txLen := rfl
@[simp] theorem completeNone_rxCount (s : State) : (completeNone s).rxCount = s.rxCount := rfl
@[simp] theorem completeNone_slots (s : State) : (completeNone s).slots = s.slots := rfl
@[simp] theorem completeNone_txbuf (s : State) : (completeNone s).txbuf = s.txbuf := rfl
@[simp] theorem completeNone_rxbuf (s : State) : (completeNone s).rxbuf = s.rxbuf := rfl
@[simp] theorem completeNone_ports (s : State) : (completeNone s).ports = s.ports := rfl
@[simp] theorem completeNone_inputs (s : State) : (completeNone s).inputs = s.inputs := rfl
@[simp] theorem completeNone_rdata (s : State) : (completeNone s).rdata = s.rdata := rfl
@[simp] theorem completeNone_taken (s : State) : (completeNone s).taken = s.taken := rfl
@[simp] theorem completeNone_opDraws (s : State) : (completeNone s).opDraws = s.opDraws := rfl
@[simp] theorem completeNone_hostDraws (s : State) : (completeNone s).hostDraws = s.hostDraws := rfl
@[simp] theorem completeNone_idleDraws (s : State) : (completeNone s).idleDraws = s.idleDraws := rfl

/-! The completion with a classification (R115, R121). -/
@[simp] theorem conclude_seq (c : Classification) (s : State) : (conclude c s).seq = .idle := rfl
@[simp] theorem conclude_op (c : Classification) (s : State) : (conclude c s).op = s.op := rfl
@[simp] theorem conclude_txIdx (c : Classification) (s : State) : (conclude c s).txIdx = s.txIdx := rfl
@[simp] theorem conclude_rxN (c : Classification) (s : State) : (conclude c s).rxN = s.rxN := rfl
@[simp] theorem conclude_rxLen (c : Classification) (s : State) : (conclude c s).rxLen = s.rxLen := rfl
@[simp] theorem conclude_timer (c : Classification) (s : State) : (conclude c s).timer = s.timer := rfl
@[simp] theorem conclude_lat (c : Classification) (s : State) : (conclude c s).lat = s.lat := rfl
@[simp] theorem conclude_done (c : Classification) (s : State) : (conclude c s).done = true := rfl
@[simp] theorem conclude_rejected (c : Classification) (s : State) : (conclude c s).rejected = s.rejected := rfl
@[simp] theorem conclude_verifyOk (c : Classification) (s : State) : (conclude c s).verifyOk = s.verifyOk := rfl
@[simp] theorem conclude_strayRx (c : Classification) (s : State) : (conclude c s).strayRx = s.strayRx := rfl
@[simp] theorem conclude_outcome (c : Classification) (s : State) : (conclude c s).outcome = c.outcome := rfl
@[simp] theorem conclude_preErr (c : Classification) (s : State) : (conclude c s).preErr = s.preErr := rfl
@[simp] theorem conclude_failCause (c : Classification) (s : State) : (conclude c s).failCause = c.failCause := rfl
@[simp] theorem conclude_errSlot (c : Classification) (s : State) : (conclude c s).errSlot = s.errSlot := rfl
@[simp] theorem conclude_result (c : Classification) (s : State) : (conclude c s).result = c.result := rfl
@[simp] theorem conclude_ie (c : Classification) (s : State) : (conclude c s).ie = s.ie := rfl
@[simp] theorem conclude_func (c : Classification) (s : State) : (conclude c s).func = s.func := rfl
@[simp] theorem conclude_pcount (c : Classification) (s : State) : (conclude c s).pcount = s.pcount := rfl
@[simp] theorem conclude_timeout (c : Classification) (s : State) : (conclude c s).timeout = s.timeout := rfl
@[simp] theorem conclude_crcExpect (c : Classification) (s : State) : (conclude c s).crcExpect = s.crcExpect := rfl
@[simp] theorem conclude_crcResult (c : Classification) (s : State) : (conclude c s).crcResult = s.crcResult := rfl
@[simp] theorem conclude_txLen (c : Classification) (s : State) : (conclude c s).txLen = s.txLen := rfl
@[simp] theorem conclude_rxCount (c : Classification) (s : State) : (conclude c s).rxCount = s.rxCount := rfl
@[simp] theorem conclude_slots (c : Classification) (s : State) : (conclude c s).slots = s.slots := rfl
@[simp] theorem conclude_txbuf (c : Classification) (s : State) : (conclude c s).txbuf = s.txbuf := rfl
@[simp] theorem conclude_rxbuf (c : Classification) (s : State) : (conclude c s).rxbuf = s.rxbuf := rfl
@[simp] theorem conclude_ports (c : Classification) (s : State) : (conclude c s).ports = s.ports := rfl
@[simp] theorem conclude_inputs (c : Classification) (s : State) : (conclude c s).inputs = s.inputs := rfl
@[simp] theorem conclude_rdata (c : Classification) (s : State) : (conclude c s).rdata = s.rdata := rfl
@[simp] theorem conclude_taken (c : Classification) (s : State) : (conclude c s).taken = s.taken := rfl
@[simp] theorem conclude_opDraws (c : Classification) (s : State) : (conclude c s).opDraws = s.opDraws := rfl
@[simp] theorem conclude_hostDraws (c : Classification) (s : State) : (conclude c s).hostDraws = s.hostDraws := rfl
@[simp] theorem conclude_idleDraws (c : Classification) (s : State) : (conclude c s).idleDraws = s.idleDraws := rfl

/-! The completion with a precondition error (R126). -/
@[simp] theorem raise_seq (e : Precondition) (s : State) : (raise e s).seq = .idle := rfl
@[simp] theorem raise_op (e : Precondition) (s : State) : (raise e s).op = s.op := rfl
@[simp] theorem raise_txIdx (e : Precondition) (s : State) : (raise e s).txIdx = s.txIdx := rfl
@[simp] theorem raise_rxN (e : Precondition) (s : State) : (raise e s).rxN = s.rxN := rfl
@[simp] theorem raise_rxLen (e : Precondition) (s : State) : (raise e s).rxLen = s.rxLen := rfl
@[simp] theorem raise_timer (e : Precondition) (s : State) : (raise e s).timer = s.timer := rfl
@[simp] theorem raise_lat (e : Precondition) (s : State) : (raise e s).lat = s.lat := rfl
@[simp] theorem raise_done (e : Precondition) (s : State) : (raise e s).done = true := rfl
@[simp] theorem raise_rejected (e : Precondition) (s : State) : (raise e s).rejected = s.rejected := rfl
@[simp] theorem raise_verifyOk (e : Precondition) (s : State) : (raise e s).verifyOk = s.verifyOk := rfl
@[simp] theorem raise_strayRx (e : Precondition) (s : State) : (raise e s).strayRx = s.strayRx := rfl
@[simp] theorem raise_outcome (e : Precondition) (s : State) : (raise e s).outcome = .precondition := rfl
@[simp] theorem raise_preErr (e : Precondition) (s : State) : (raise e s).preErr = e.code := rfl
@[simp] theorem raise_failCause (e : Precondition) (s : State) : (raise e s).failCause = .none := rfl
@[simp] theorem raise_errSlot (e : Precondition) (s : State) : (raise e s).errSlot = e.slot := rfl
@[simp] theorem raise_result (e : Precondition) (s : State) : (raise e s).result = 0x00 := rfl
@[simp] theorem raise_ie (e : Precondition) (s : State) : (raise e s).ie = s.ie := rfl
@[simp] theorem raise_func (e : Precondition) (s : State) : (raise e s).func = s.func := rfl
@[simp] theorem raise_pcount (e : Precondition) (s : State) : (raise e s).pcount = s.pcount := rfl
@[simp] theorem raise_timeout (e : Precondition) (s : State) : (raise e s).timeout = s.timeout := rfl
@[simp] theorem raise_crcExpect (e : Precondition) (s : State) : (raise e s).crcExpect = s.crcExpect := rfl
@[simp] theorem raise_crcResult (e : Precondition) (s : State) : (raise e s).crcResult = s.crcResult := rfl
@[simp] theorem raise_txLen (e : Precondition) (s : State) : (raise e s).txLen = 0 := rfl
@[simp] theorem raise_rxCount (e : Precondition) (s : State) : (raise e s).rxCount = s.rxCount := rfl
@[simp] theorem raise_slots (e : Precondition) (s : State) : (raise e s).slots = s.slots := rfl
@[simp] theorem raise_txbuf (e : Precondition) (s : State) : (raise e s).txbuf = s.txbuf := rfl
@[simp] theorem raise_rxbuf (e : Precondition) (s : State) : (raise e s).rxbuf = s.rxbuf := rfl
@[simp] theorem raise_ports (e : Precondition) (s : State) : (raise e s).ports = s.ports := rfl
@[simp] theorem raise_inputs (e : Precondition) (s : State) : (raise e s).inputs = s.inputs := rfl
@[simp] theorem raise_rdata (e : Precondition) (s : State) : (raise e s).rdata = s.rdata := rfl
@[simp] theorem raise_taken (e : Precondition) (s : State) : (raise e s).taken = s.taken := rfl
@[simp] theorem raise_opDraws (e : Precondition) (s : State) : (raise e s).opDraws = s.opDraws := rfl
@[simp] theorem raise_hostDraws (e : Precondition) (s : State) : (raise e s).hostDraws = s.hostDraws := rfl
@[simp] theorem raise_idleDraws (e : Precondition) (s : State) : (raise e s).idleDraws = s.idleDraws := rfl

/-! A W1C write of DONE (R25). -/
@[simp] theorem clearDone_seq (s : State) : (clearDone s).seq = s.seq := rfl
@[simp] theorem clearDone_op (s : State) : (clearDone s).op = s.op := rfl
@[simp] theorem clearDone_txIdx (s : State) : (clearDone s).txIdx = s.txIdx := rfl
@[simp] theorem clearDone_rxN (s : State) : (clearDone s).rxN = s.rxN := rfl
@[simp] theorem clearDone_rxLen (s : State) : (clearDone s).rxLen = s.rxLen := rfl
@[simp] theorem clearDone_timer (s : State) : (clearDone s).timer = s.timer := rfl
@[simp] theorem clearDone_lat (s : State) : (clearDone s).lat = s.lat := rfl
@[simp] theorem clearDone_done (s : State) : (clearDone s).done = false := rfl
@[simp] theorem clearDone_rejected (s : State) : (clearDone s).rejected = s.rejected := rfl
@[simp] theorem clearDone_verifyOk (s : State) : (clearDone s).verifyOk = s.verifyOk := rfl
@[simp] theorem clearDone_strayRx (s : State) : (clearDone s).strayRx = s.strayRx := rfl
@[simp] theorem clearDone_outcome (s : State) : (clearDone s).outcome = s.outcome := rfl
@[simp] theorem clearDone_preErr (s : State) : (clearDone s).preErr = s.preErr := rfl
@[simp] theorem clearDone_failCause (s : State) : (clearDone s).failCause = s.failCause := rfl
@[simp] theorem clearDone_errSlot (s : State) : (clearDone s).errSlot = s.errSlot := rfl
@[simp] theorem clearDone_result (s : State) : (clearDone s).result = s.result := rfl
@[simp] theorem clearDone_ie (s : State) : (clearDone s).ie = s.ie := rfl
@[simp] theorem clearDone_func (s : State) : (clearDone s).func = s.func := rfl
@[simp] theorem clearDone_pcount (s : State) : (clearDone s).pcount = s.pcount := rfl
@[simp] theorem clearDone_timeout (s : State) : (clearDone s).timeout = s.timeout := rfl
@[simp] theorem clearDone_crcExpect (s : State) : (clearDone s).crcExpect = s.crcExpect := rfl
@[simp] theorem clearDone_crcResult (s : State) : (clearDone s).crcResult = s.crcResult := rfl
@[simp] theorem clearDone_txLen (s : State) : (clearDone s).txLen = s.txLen := rfl
@[simp] theorem clearDone_rxCount (s : State) : (clearDone s).rxCount = s.rxCount := rfl
@[simp] theorem clearDone_slots (s : State) : (clearDone s).slots = s.slots := rfl
@[simp] theorem clearDone_txbuf (s : State) : (clearDone s).txbuf = s.txbuf := rfl
@[simp] theorem clearDone_rxbuf (s : State) : (clearDone s).rxbuf = s.rxbuf := rfl
@[simp] theorem clearDone_ports (s : State) : (clearDone s).ports = s.ports := rfl
@[simp] theorem clearDone_inputs (s : State) : (clearDone s).inputs = s.inputs := rfl
@[simp] theorem clearDone_rdata (s : State) : (clearDone s).rdata = s.rdata := rfl
@[simp] theorem clearDone_taken (s : State) : (clearDone s).taken = s.taken := rfl
@[simp] theorem clearDone_opDraws (s : State) : (clearDone s).opDraws = s.opDraws := rfl
@[simp] theorem clearDone_hostDraws (s : State) : (clearDone s).hostDraws = s.hostDraws := rfl
@[simp] theorem clearDone_idleDraws (s : State) : (clearDone s).idleDraws = s.idleDraws := rfl

/-! The bytes of a result (R104). -/
@[simp] theorem writeTx_seq (bs : List Byte) (s : State) : (writeTx bs s).seq = s.seq := rfl
@[simp] theorem writeTx_op (bs : List Byte) (s : State) : (writeTx bs s).op = s.op := rfl
@[simp] theorem writeTx_txIdx (bs : List Byte) (s : State) : (writeTx bs s).txIdx = s.txIdx := rfl
@[simp] theorem writeTx_rxN (bs : List Byte) (s : State) : (writeTx bs s).rxN = s.rxN := rfl
@[simp] theorem writeTx_rxLen (bs : List Byte) (s : State) : (writeTx bs s).rxLen = s.rxLen := rfl
@[simp] theorem writeTx_timer (bs : List Byte) (s : State) : (writeTx bs s).timer = s.timer := rfl
@[simp] theorem writeTx_lat (bs : List Byte) (s : State) : (writeTx bs s).lat = s.lat := rfl
@[simp] theorem writeTx_done (bs : List Byte) (s : State) : (writeTx bs s).done = s.done := rfl
@[simp] theorem writeTx_rejected (bs : List Byte) (s : State) : (writeTx bs s).rejected = s.rejected := rfl
@[simp] theorem writeTx_verifyOk (bs : List Byte) (s : State) : (writeTx bs s).verifyOk = s.verifyOk := rfl
@[simp] theorem writeTx_strayRx (bs : List Byte) (s : State) : (writeTx bs s).strayRx = s.strayRx := rfl
@[simp] theorem writeTx_outcome (bs : List Byte) (s : State) : (writeTx bs s).outcome = s.outcome := rfl
@[simp] theorem writeTx_preErr (bs : List Byte) (s : State) : (writeTx bs s).preErr = s.preErr := rfl
@[simp] theorem writeTx_failCause (bs : List Byte) (s : State) : (writeTx bs s).failCause = s.failCause := rfl
@[simp] theorem writeTx_errSlot (bs : List Byte) (s : State) : (writeTx bs s).errSlot = s.errSlot := rfl
@[simp] theorem writeTx_result (bs : List Byte) (s : State) : (writeTx bs s).result = s.result := rfl
@[simp] theorem writeTx_ie (bs : List Byte) (s : State) : (writeTx bs s).ie = s.ie := rfl
@[simp] theorem writeTx_func (bs : List Byte) (s : State) : (writeTx bs s).func = s.func := rfl
@[simp] theorem writeTx_pcount (bs : List Byte) (s : State) : (writeTx bs s).pcount = s.pcount := rfl
@[simp] theorem writeTx_timeout (bs : List Byte) (s : State) : (writeTx bs s).timeout = s.timeout := rfl
@[simp] theorem writeTx_crcExpect (bs : List Byte) (s : State) : (writeTx bs s).crcExpect = s.crcExpect := rfl
@[simp] theorem writeTx_crcResult (bs : List Byte) (s : State) : (writeTx bs s).crcResult = s.crcResult := rfl
@[simp] theorem writeTx_txLen (bs : List Byte) (s : State) : (writeTx bs s).txLen = BitVec.ofNat 8 bs.length := rfl
@[simp] theorem writeTx_rxCount (bs : List Byte) (s : State) : (writeTx bs s).rxCount = s.rxCount := rfl
@[simp] theorem writeTx_slots (bs : List Byte) (s : State) : (writeTx bs s).slots = s.slots := rfl
@[simp] theorem writeTx_txbuf (bs : List Byte) (s : State) : (writeTx bs s).txbuf = Memory.writeAll Config.txbufSize 0 bs s.txbuf := rfl
@[simp] theorem writeTx_rxbuf (bs : List Byte) (s : State) : (writeTx bs s).rxbuf = s.rxbuf := rfl
@[simp] theorem writeTx_ports (bs : List Byte) (s : State) : (writeTx bs s).ports = s.ports := rfl
@[simp] theorem writeTx_inputs (bs : List Byte) (s : State) : (writeTx bs s).inputs = s.inputs := rfl
@[simp] theorem writeTx_rdata (bs : List Byte) (s : State) : (writeTx bs s).rdata = s.rdata := rfl
@[simp] theorem writeTx_taken (bs : List Byte) (s : State) : (writeTx bs s).taken = s.taken := rfl
@[simp] theorem writeTx_opDraws (bs : List Byte) (s : State) : (writeTx bs s).opDraws = s.opDraws := rfl
@[simp] theorem writeTx_hostDraws (bs : List Byte) (s : State) : (writeTx bs s).hostDraws = s.hostDraws := rfl
@[simp] theorem writeTx_idleDraws (bs : List Byte) (s : State) : (writeTx bs s).idleDraws = s.idleDraws := rfl

/-! The completion with bytes (R87, R88, R105). -/
@[simp] theorem produce_seq (bs : List Byte) (s : State) : (produce bs s).seq = .idle := rfl
@[simp] theorem produce_op (bs : List Byte) (s : State) : (produce bs s).op = s.op := rfl
@[simp] theorem produce_txIdx (bs : List Byte) (s : State) : (produce bs s).txIdx = s.txIdx := rfl
@[simp] theorem produce_rxN (bs : List Byte) (s : State) : (produce bs s).rxN = s.rxN := rfl
@[simp] theorem produce_rxLen (bs : List Byte) (s : State) : (produce bs s).rxLen = s.rxLen := rfl
@[simp] theorem produce_timer (bs : List Byte) (s : State) : (produce bs s).timer = s.timer := rfl
@[simp] theorem produce_lat (bs : List Byte) (s : State) : (produce bs s).lat = s.lat := rfl
@[simp] theorem produce_done (bs : List Byte) (s : State) : (produce bs s).done = true := rfl
@[simp] theorem produce_rejected (bs : List Byte) (s : State) : (produce bs s).rejected = s.rejected := rfl
@[simp] theorem produce_verifyOk (bs : List Byte) (s : State) : (produce bs s).verifyOk = s.verifyOk := rfl
@[simp] theorem produce_strayRx (bs : List Byte) (s : State) : (produce bs s).strayRx = s.strayRx := rfl
@[simp] theorem produce_outcome (bs : List Byte) (s : State) : (produce bs s).outcome = .none := rfl
@[simp] theorem produce_preErr (bs : List Byte) (s : State) : (produce bs s).preErr = s.preErr := rfl
@[simp] theorem produce_failCause (bs : List Byte) (s : State) : (produce bs s).failCause = s.failCause := rfl
@[simp] theorem produce_errSlot (bs : List Byte) (s : State) : (produce bs s).errSlot = s.errSlot := rfl
@[simp] theorem produce_result (bs : List Byte) (s : State) : (produce bs s).result = s.result := rfl
@[simp] theorem produce_ie (bs : List Byte) (s : State) : (produce bs s).ie = s.ie := rfl
@[simp] theorem produce_func (bs : List Byte) (s : State) : (produce bs s).func = s.func := rfl
@[simp] theorem produce_pcount (bs : List Byte) (s : State) : (produce bs s).pcount = s.pcount := rfl
@[simp] theorem produce_timeout (bs : List Byte) (s : State) : (produce bs s).timeout = s.timeout := rfl
@[simp] theorem produce_crcExpect (bs : List Byte) (s : State) : (produce bs s).crcExpect = s.crcExpect := rfl
@[simp] theorem produce_crcResult (bs : List Byte) (s : State) : (produce bs s).crcResult = s.crcResult := rfl
@[simp] theorem produce_txLen (bs : List Byte) (s : State) : (produce bs s).txLen = BitVec.ofNat 8 bs.length := rfl
@[simp] theorem produce_rxCount (bs : List Byte) (s : State) : (produce bs s).rxCount = s.rxCount := rfl
@[simp] theorem produce_slots (bs : List Byte) (s : State) : (produce bs s).slots = s.slots := rfl
@[simp] theorem produce_txbuf (bs : List Byte) (s : State) : (produce bs s).txbuf = Memory.writeAll Config.txbufSize 0 bs s.txbuf := rfl
@[simp] theorem produce_rxbuf (bs : List Byte) (s : State) : (produce bs s).rxbuf = s.rxbuf := rfl
@[simp] theorem produce_ports (bs : List Byte) (s : State) : (produce bs s).ports = s.ports := rfl
@[simp] theorem produce_inputs (bs : List Byte) (s : State) : (produce bs s).inputs = s.inputs := rfl
@[simp] theorem produce_rdata (bs : List Byte) (s : State) : (produce bs s).rdata = s.rdata := rfl
@[simp] theorem produce_taken (bs : List Byte) (s : State) : (produce bs s).taken = s.taken := rfl
@[simp] theorem produce_opDraws (bs : List Byte) (s : State) : (produce bs s).opDraws = s.opDraws := rfl
@[simp] theorem produce_hostDraws (bs : List Byte) (s : State) : (produce bs s).hostDraws = s.hostDraws := rfl
@[simp] theorem produce_idleDraws (bs : List Byte) (s : State) : (produce bs s).idleDraws = s.idleDraws := rfl

/-! The start of a transmission (R111). -/
@[simp] theorem startTransmit_seq (bs : List Byte) (s : State) : (startTransmit bs s).seq = .frameSent := rfl
@[simp] theorem startTransmit_op (bs : List Byte) (s : State) : (startTransmit bs s).op = s.op := rfl
@[simp] theorem startTransmit_txIdx (bs : List Byte) (s : State) : (startTransmit bs s).txIdx = 0 := rfl
@[simp] theorem startTransmit_rxN (bs : List Byte) (s : State) : (startTransmit bs s).rxN = s.rxN := rfl
@[simp] theorem startTransmit_rxLen (bs : List Byte) (s : State) : (startTransmit bs s).rxLen = s.rxLen := rfl
@[simp] theorem startTransmit_timer (bs : List Byte) (s : State) : (startTransmit bs s).timer = s.timer := rfl
@[simp] theorem startTransmit_lat (bs : List Byte) (s : State) : (startTransmit bs s).lat = s.lat := rfl
@[simp] theorem startTransmit_done (bs : List Byte) (s : State) : (startTransmit bs s).done = s.done := rfl
@[simp] theorem startTransmit_rejected (bs : List Byte) (s : State) : (startTransmit bs s).rejected = s.rejected := rfl
@[simp] theorem startTransmit_verifyOk (bs : List Byte) (s : State) : (startTransmit bs s).verifyOk = s.verifyOk := rfl
@[simp] theorem startTransmit_strayRx (bs : List Byte) (s : State) : (startTransmit bs s).strayRx = s.strayRx := rfl
@[simp] theorem startTransmit_outcome (bs : List Byte) (s : State) : (startTransmit bs s).outcome = s.outcome := rfl
@[simp] theorem startTransmit_preErr (bs : List Byte) (s : State) : (startTransmit bs s).preErr = s.preErr := rfl
@[simp] theorem startTransmit_failCause (bs : List Byte) (s : State) : (startTransmit bs s).failCause = s.failCause := rfl
@[simp] theorem startTransmit_errSlot (bs : List Byte) (s : State) : (startTransmit bs s).errSlot = s.errSlot := rfl
@[simp] theorem startTransmit_result (bs : List Byte) (s : State) : (startTransmit bs s).result = s.result := rfl
@[simp] theorem startTransmit_ie (bs : List Byte) (s : State) : (startTransmit bs s).ie = s.ie := rfl
@[simp] theorem startTransmit_func (bs : List Byte) (s : State) : (startTransmit bs s).func = s.func := rfl
@[simp] theorem startTransmit_pcount (bs : List Byte) (s : State) : (startTransmit bs s).pcount = s.pcount := rfl
@[simp] theorem startTransmit_timeout (bs : List Byte) (s : State) : (startTransmit bs s).timeout = s.timeout := rfl
@[simp] theorem startTransmit_crcExpect (bs : List Byte) (s : State) : (startTransmit bs s).crcExpect = s.crcExpect := rfl
@[simp] theorem startTransmit_crcResult (bs : List Byte) (s : State) : (startTransmit bs s).crcResult = s.crcResult := rfl
@[simp] theorem startTransmit_txLen (bs : List Byte) (s : State) : (startTransmit bs s).txLen = BitVec.ofNat 8 bs.length := rfl
@[simp] theorem startTransmit_rxCount (bs : List Byte) (s : State) : (startTransmit bs s).rxCount = s.rxCount := rfl
@[simp] theorem startTransmit_slots (bs : List Byte) (s : State) : (startTransmit bs s).slots = s.slots := rfl
@[simp] theorem startTransmit_txbuf (bs : List Byte) (s : State) : (startTransmit bs s).txbuf = Memory.writeAll Config.txbufSize 0 bs s.txbuf := rfl
@[simp] theorem startTransmit_rxbuf (bs : List Byte) (s : State) : (startTransmit bs s).rxbuf = s.rxbuf := rfl
@[simp] theorem startTransmit_ports (bs : List Byte) (s : State) : (startTransmit bs s).ports = s.ports := rfl
@[simp] theorem startTransmit_inputs (bs : List Byte) (s : State) : (startTransmit bs s).inputs = s.inputs := rfl
@[simp] theorem startTransmit_rdata (bs : List Byte) (s : State) : (startTransmit bs s).rdata = s.rdata := rfl
@[simp] theorem startTransmit_taken (bs : List Byte) (s : State) : (startTransmit bs s).taken = s.taken := rfl
@[simp] theorem startTransmit_opDraws (bs : List Byte) (s : State) : (startTransmit bs s).opDraws = s.opDraws := rfl
@[simp] theorem startTransmit_hostDraws (bs : List Byte) (s : State) : (startTransmit bs s).hostDraws = s.hostDraws := rfl
@[simp] theorem startTransmit_idleDraws (bs : List Byte) (s : State) : (startTransmit bs s).idleDraws = s.idleDraws := rfl

/-! A received or loaded byte (R37). -/
@[simp] theorem writeRx_seq (i : Nat) (b : Byte) (s : State) : (writeRx i b s).seq = s.seq := rfl
@[simp] theorem writeRx_op (i : Nat) (b : Byte) (s : State) : (writeRx i b s).op = s.op := rfl
@[simp] theorem writeRx_txIdx (i : Nat) (b : Byte) (s : State) : (writeRx i b s).txIdx = s.txIdx := rfl
@[simp] theorem writeRx_rxN (i : Nat) (b : Byte) (s : State) : (writeRx i b s).rxN = s.rxN := rfl
@[simp] theorem writeRx_rxLen (i : Nat) (b : Byte) (s : State) : (writeRx i b s).rxLen = s.rxLen := rfl
@[simp] theorem writeRx_timer (i : Nat) (b : Byte) (s : State) : (writeRx i b s).timer = s.timer := rfl
@[simp] theorem writeRx_lat (i : Nat) (b : Byte) (s : State) : (writeRx i b s).lat = s.lat := rfl
@[simp] theorem writeRx_done (i : Nat) (b : Byte) (s : State) : (writeRx i b s).done = s.done := rfl
@[simp] theorem writeRx_rejected (i : Nat) (b : Byte) (s : State) : (writeRx i b s).rejected = s.rejected := rfl
@[simp] theorem writeRx_verifyOk (i : Nat) (b : Byte) (s : State) : (writeRx i b s).verifyOk = s.verifyOk := rfl
@[simp] theorem writeRx_strayRx (i : Nat) (b : Byte) (s : State) : (writeRx i b s).strayRx = s.strayRx := rfl
@[simp] theorem writeRx_outcome (i : Nat) (b : Byte) (s : State) : (writeRx i b s).outcome = s.outcome := rfl
@[simp] theorem writeRx_preErr (i : Nat) (b : Byte) (s : State) : (writeRx i b s).preErr = s.preErr := rfl
@[simp] theorem writeRx_failCause (i : Nat) (b : Byte) (s : State) : (writeRx i b s).failCause = s.failCause := rfl
@[simp] theorem writeRx_errSlot (i : Nat) (b : Byte) (s : State) : (writeRx i b s).errSlot = s.errSlot := rfl
@[simp] theorem writeRx_result (i : Nat) (b : Byte) (s : State) : (writeRx i b s).result = s.result := rfl
@[simp] theorem writeRx_ie (i : Nat) (b : Byte) (s : State) : (writeRx i b s).ie = s.ie := rfl
@[simp] theorem writeRx_func (i : Nat) (b : Byte) (s : State) : (writeRx i b s).func = s.func := rfl
@[simp] theorem writeRx_pcount (i : Nat) (b : Byte) (s : State) : (writeRx i b s).pcount = s.pcount := rfl
@[simp] theorem writeRx_timeout (i : Nat) (b : Byte) (s : State) : (writeRx i b s).timeout = s.timeout := rfl
@[simp] theorem writeRx_crcExpect (i : Nat) (b : Byte) (s : State) : (writeRx i b s).crcExpect = s.crcExpect := rfl
@[simp] theorem writeRx_crcResult (i : Nat) (b : Byte) (s : State) : (writeRx i b s).crcResult = s.crcResult := rfl
@[simp] theorem writeRx_txLen (i : Nat) (b : Byte) (s : State) : (writeRx i b s).txLen = s.txLen := rfl
@[simp] theorem writeRx_rxCount (i : Nat) (b : Byte) (s : State) : (writeRx i b s).rxCount = s.rxCount := rfl
@[simp] theorem writeRx_slots (i : Nat) (b : Byte) (s : State) : (writeRx i b s).slots = s.slots := rfl
@[simp] theorem writeRx_txbuf (i : Nat) (b : Byte) (s : State) : (writeRx i b s).txbuf = s.txbuf := rfl
@[simp] theorem writeRx_rxbuf (i : Nat) (b : Byte) (s : State) : (writeRx i b s).rxbuf = Memory.write Config.rxbufSize i b s.rxbuf := rfl
@[simp] theorem writeRx_ports (i : Nat) (b : Byte) (s : State) : (writeRx i b s).ports = s.ports := rfl
@[simp] theorem writeRx_inputs (i : Nat) (b : Byte) (s : State) : (writeRx i b s).inputs = s.inputs := rfl
@[simp] theorem writeRx_rdata (i : Nat) (b : Byte) (s : State) : (writeRx i b s).rdata = s.rdata := rfl
@[simp] theorem writeRx_taken (i : Nat) (b : Byte) (s : State) : (writeRx i b s).taken = s.taken := rfl
@[simp] theorem writeRx_opDraws (i : Nat) (b : Byte) (s : State) : (writeRx i b s).opDraws = s.opDraws := rfl
@[simp] theorem writeRx_hostDraws (i : Nat) (b : Byte) (s : State) : (writeRx i b s).hostDraws = s.hostDraws := rfl
@[simp] theorem writeRx_idleDraws (i : Nat) (b : Byte) (s : State) : (writeRx i b s).idleDraws = s.idleDraws := rfl

/-! A slot (R33). -/
@[simp] theorem setSlot_seq (i : Nat) (p : Param) (s : State) : (setSlot i p s).seq = s.seq := rfl
@[simp] theorem setSlot_op (i : Nat) (p : Param) (s : State) : (setSlot i p s).op = s.op := rfl
@[simp] theorem setSlot_txIdx (i : Nat) (p : Param) (s : State) : (setSlot i p s).txIdx = s.txIdx := rfl
@[simp] theorem setSlot_rxN (i : Nat) (p : Param) (s : State) : (setSlot i p s).rxN = s.rxN := rfl
@[simp] theorem setSlot_rxLen (i : Nat) (p : Param) (s : State) : (setSlot i p s).rxLen = s.rxLen := rfl
@[simp] theorem setSlot_timer (i : Nat) (p : Param) (s : State) : (setSlot i p s).timer = s.timer := rfl
@[simp] theorem setSlot_lat (i : Nat) (p : Param) (s : State) : (setSlot i p s).lat = s.lat := rfl
@[simp] theorem setSlot_done (i : Nat) (p : Param) (s : State) : (setSlot i p s).done = s.done := rfl
@[simp] theorem setSlot_rejected (i : Nat) (p : Param) (s : State) : (setSlot i p s).rejected = s.rejected := rfl
@[simp] theorem setSlot_verifyOk (i : Nat) (p : Param) (s : State) : (setSlot i p s).verifyOk = s.verifyOk := rfl
@[simp] theorem setSlot_strayRx (i : Nat) (p : Param) (s : State) : (setSlot i p s).strayRx = s.strayRx := rfl
@[simp] theorem setSlot_outcome (i : Nat) (p : Param) (s : State) : (setSlot i p s).outcome = s.outcome := rfl
@[simp] theorem setSlot_preErr (i : Nat) (p : Param) (s : State) : (setSlot i p s).preErr = s.preErr := rfl
@[simp] theorem setSlot_failCause (i : Nat) (p : Param) (s : State) : (setSlot i p s).failCause = s.failCause := rfl
@[simp] theorem setSlot_errSlot (i : Nat) (p : Param) (s : State) : (setSlot i p s).errSlot = s.errSlot := rfl
@[simp] theorem setSlot_result (i : Nat) (p : Param) (s : State) : (setSlot i p s).result = s.result := rfl
@[simp] theorem setSlot_ie (i : Nat) (p : Param) (s : State) : (setSlot i p s).ie = s.ie := rfl
@[simp] theorem setSlot_func (i : Nat) (p : Param) (s : State) : (setSlot i p s).func = s.func := rfl
@[simp] theorem setSlot_pcount (i : Nat) (p : Param) (s : State) : (setSlot i p s).pcount = s.pcount := rfl
@[simp] theorem setSlot_timeout (i : Nat) (p : Param) (s : State) : (setSlot i p s).timeout = s.timeout := rfl
@[simp] theorem setSlot_crcExpect (i : Nat) (p : Param) (s : State) : (setSlot i p s).crcExpect = s.crcExpect := rfl
@[simp] theorem setSlot_crcResult (i : Nat) (p : Param) (s : State) : (setSlot i p s).crcResult = s.crcResult := rfl
@[simp] theorem setSlot_txLen (i : Nat) (p : Param) (s : State) : (setSlot i p s).txLen = s.txLen := rfl
@[simp] theorem setSlot_rxCount (i : Nat) (p : Param) (s : State) : (setSlot i p s).rxCount = s.rxCount := rfl
@[simp] theorem setSlot_slots (i : Nat) (p : Param) (s : State) : (setSlot i p s).slots = s.slots.setIfInBounds i p := rfl
@[simp] theorem setSlot_txbuf (i : Nat) (p : Param) (s : State) : (setSlot i p s).txbuf = s.txbuf := rfl
@[simp] theorem setSlot_rxbuf (i : Nat) (p : Param) (s : State) : (setSlot i p s).rxbuf = s.rxbuf := rfl
@[simp] theorem setSlot_ports (i : Nat) (p : Param) (s : State) : (setSlot i p s).ports = s.ports := rfl
@[simp] theorem setSlot_inputs (i : Nat) (p : Param) (s : State) : (setSlot i p s).inputs = s.inputs := rfl
@[simp] theorem setSlot_rdata (i : Nat) (p : Param) (s : State) : (setSlot i p s).rdata = s.rdata := rfl
@[simp] theorem setSlot_taken (i : Nat) (p : Param) (s : State) : (setSlot i p s).taken = s.taken := rfl
@[simp] theorem setSlot_opDraws (i : Nat) (p : Param) (s : State) : (setSlot i p s).opDraws = s.opDraws := rfl
@[simp] theorem setSlot_hostDraws (i : Nat) (p : Param) (s : State) : (setSlot i p s).hostDraws = s.hostDraws := rfl
@[simp] theorem setSlot_idleDraws (i : Nat) (p : Param) (s : State) : (setSlot i p s).idleDraws = s.idleDraws := rfl

/-! Drawn free values (log entry 8). -/
@[simp] theorem drew_seq (n : Nat) (s : State) : (drew n s).seq = s.seq := rfl
@[simp] theorem drew_op (n : Nat) (s : State) : (drew n s).op = s.op := rfl
@[simp] theorem drew_txIdx (n : Nat) (s : State) : (drew n s).txIdx = s.txIdx := rfl
@[simp] theorem drew_rxN (n : Nat) (s : State) : (drew n s).rxN = s.rxN := rfl
@[simp] theorem drew_rxLen (n : Nat) (s : State) : (drew n s).rxLen = s.rxLen := rfl
@[simp] theorem drew_timer (n : Nat) (s : State) : (drew n s).timer = s.timer := rfl
@[simp] theorem drew_lat (n : Nat) (s : State) : (drew n s).lat = s.lat := rfl
@[simp] theorem drew_done (n : Nat) (s : State) : (drew n s).done = s.done := rfl
@[simp] theorem drew_rejected (n : Nat) (s : State) : (drew n s).rejected = s.rejected := rfl
@[simp] theorem drew_verifyOk (n : Nat) (s : State) : (drew n s).verifyOk = s.verifyOk := rfl
@[simp] theorem drew_strayRx (n : Nat) (s : State) : (drew n s).strayRx = s.strayRx := rfl
@[simp] theorem drew_outcome (n : Nat) (s : State) : (drew n s).outcome = s.outcome := rfl
@[simp] theorem drew_preErr (n : Nat) (s : State) : (drew n s).preErr = s.preErr := rfl
@[simp] theorem drew_failCause (n : Nat) (s : State) : (drew n s).failCause = s.failCause := rfl
@[simp] theorem drew_errSlot (n : Nat) (s : State) : (drew n s).errSlot = s.errSlot := rfl
@[simp] theorem drew_result (n : Nat) (s : State) : (drew n s).result = s.result := rfl
@[simp] theorem drew_ie (n : Nat) (s : State) : (drew n s).ie = s.ie := rfl
@[simp] theorem drew_func (n : Nat) (s : State) : (drew n s).func = s.func := rfl
@[simp] theorem drew_pcount (n : Nat) (s : State) : (drew n s).pcount = s.pcount := rfl
@[simp] theorem drew_timeout (n : Nat) (s : State) : (drew n s).timeout = s.timeout := rfl
@[simp] theorem drew_crcExpect (n : Nat) (s : State) : (drew n s).crcExpect = s.crcExpect := rfl
@[simp] theorem drew_crcResult (n : Nat) (s : State) : (drew n s).crcResult = s.crcResult := rfl
@[simp] theorem drew_txLen (n : Nat) (s : State) : (drew n s).txLen = s.txLen := rfl
@[simp] theorem drew_rxCount (n : Nat) (s : State) : (drew n s).rxCount = s.rxCount := rfl
@[simp] theorem drew_slots (n : Nat) (s : State) : (drew n s).slots = s.slots := rfl
@[simp] theorem drew_txbuf (n : Nat) (s : State) : (drew n s).txbuf = s.txbuf := rfl
@[simp] theorem drew_rxbuf (n : Nat) (s : State) : (drew n s).rxbuf = s.rxbuf := rfl
@[simp] theorem drew_ports (n : Nat) (s : State) : (drew n s).ports = s.ports := rfl
@[simp] theorem drew_inputs (n : Nat) (s : State) : (drew n s).inputs = s.inputs := rfl
@[simp] theorem drew_rdata (n : Nat) (s : State) : (drew n s).rdata = s.rdata := rfl
@[simp] theorem drew_taken (n : Nat) (s : State) : (drew n s).taken = s.taken := rfl
@[simp] theorem drew_opDraws (n : Nat) (s : State) : (drew n s).opDraws = s.opDraws + n := rfl
@[simp] theorem drew_hostDraws (n : Nat) (s : State) : (drew n s).hostDraws = s.hostDraws := rfl
@[simp] theorem drew_idleDraws (n : Nat) (s : State) : (drew n s).idleDraws = s.idleDraws := rfl

/-! The begin of a cycle (log entry 2). -/
@[simp] theorem latch_seq (s : State) : s.latch.seq = s.seq := by unfold State.latch; split <;> rfl
@[simp] theorem latch_op (s : State) : s.latch.op = s.op := by unfold State.latch; split <;> rfl
@[simp] theorem latch_txIdx (s : State) : s.latch.txIdx = s.txIdx := by unfold State.latch; split <;> rfl
@[simp] theorem latch_rxN (s : State) : s.latch.rxN = s.rxN := by unfold State.latch; split <;> rfl
@[simp] theorem latch_rxLen (s : State) : s.latch.rxLen = s.rxLen := by unfold State.latch; split <;> rfl
@[simp] theorem latch_timer (s : State) : s.latch.timer = s.timer := by unfold State.latch; split <;> rfl
@[simp] theorem latch_lat (s : State) : s.latch.lat = s.lat := by unfold State.latch; split <;> rfl
@[simp] theorem latch_done (s : State) : s.latch.done = s.done := by unfold State.latch; split <;> rfl
@[simp] theorem latch_rejected (s : State) : s.latch.rejected = s.rejected := by unfold State.latch; split <;> rfl
@[simp] theorem latch_verifyOk (s : State) : s.latch.verifyOk = s.verifyOk := by unfold State.latch; split <;> rfl
@[simp] theorem latch_strayRx (s : State) : s.latch.strayRx = s.strayRx := by unfold State.latch; split <;> rfl
@[simp] theorem latch_outcome (s : State) : s.latch.outcome = s.outcome := by unfold State.latch; split <;> rfl
@[simp] theorem latch_preErr (s : State) : s.latch.preErr = s.preErr := by unfold State.latch; split <;> rfl
@[simp] theorem latch_failCause (s : State) : s.latch.failCause = s.failCause := by unfold State.latch; split <;> rfl
@[simp] theorem latch_errSlot (s : State) : s.latch.errSlot = s.errSlot := by unfold State.latch; split <;> rfl
@[simp] theorem latch_result (s : State) : s.latch.result = s.result := by unfold State.latch; split <;> rfl
@[simp] theorem latch_ie (s : State) : s.latch.ie = s.ie := by unfold State.latch; split <;> rfl
@[simp] theorem latch_func (s : State) : s.latch.func = s.func := by unfold State.latch; split <;> rfl
@[simp] theorem latch_pcount (s : State) : s.latch.pcount = s.pcount := by unfold State.latch; split <;> rfl
@[simp] theorem latch_timeout (s : State) : s.latch.timeout = s.timeout := by unfold State.latch; split <;> rfl
@[simp] theorem latch_crcExpect (s : State) : s.latch.crcExpect = s.crcExpect := by unfold State.latch; split <;> rfl
@[simp] theorem latch_crcResult (s : State) : s.latch.crcResult = s.crcResult := by unfold State.latch; split <;> rfl
@[simp] theorem latch_txLen (s : State) : s.latch.txLen = s.txLen := by unfold State.latch; split <;> rfl
@[simp] theorem latch_rxCount (s : State) : s.latch.rxCount = s.rxCount := by unfold State.latch; split <;> rfl
@[simp] theorem latch_slots (s : State) : s.latch.slots = s.slots := by unfold State.latch; split <;> rfl
@[simp] theorem latch_txbuf (s : State) : s.latch.txbuf = s.txbuf := by unfold State.latch; split <;> rfl
@[simp] theorem latch_rxbuf (s : State) : s.latch.rxbuf = s.rxbuf := by unfold State.latch; split <;> rfl
@[simp] theorem latch_taken (s : State) : s.latch.taken = s.taken := by unfold State.latch; split <;> rfl
@[simp] theorem latch_opDraws (s : State) : s.latch.opDraws = s.opDraws := by unfold State.latch; split <;> rfl
@[simp] theorem latch_hostDraws (s : State) : s.latch.hostDraws = s.hostDraws := by unfold State.latch; split <;> rfl
@[simp] theorem latch_idleDraws (s : State) : s.latch.idleDraws = s.idleDraws + 1 := by unfold State.latch; split <;> rfl
@[simp] theorem latch_rdata (s : State) : s.latch.rdata = none := by unfold State.latch; split <;> rfl
theorem latch_ports (s : State) : s.latch.ports = s.inputs.headD Ports.quiet := by
  unfold State.latch; split <;> simp [*]
@[simp] theorem latch_inputs (s : State) : s.latch.inputs = s.inputs.tail := by unfold State.latch; split <;> simp [*]

end Sys2Proof.Machine
end

