-- ==== Sys2Proof/Laws/Ops.lean ====
section
/-! SUPPORT. What each shared operation can do, said once: the ports' part of a cycle, the cycles of an operation, and the
step. -/

namespace Sys2Proof.Machine

/-! ### Predicates of the state -/

theorem busy_iff (s : State) : s.busy = true ↔ s.seq ≠ .idle := by simp [State.busy]

theorem not_busy_iff (s : State) : s.busy = false ↔ s.seq = .idle := by simp [State.busy]

theorem performing_iff (s : State) (o : Op) : s.performing o = true ↔ s.seq = .compute ∧ s.op = o ∧ s.lat = 0 := by
  simp [State.performing, and_assoc]

theorem buildingFor_iff (s : State) (fc : BitVec 12) (n : BitVec 8) :
    s.buildingFor fc n = true ↔
      s.seq = .compute ∧ (s.op = .build ∨ s.op = .execute) ∧ s.lat = 0 ∧ s.func = fc ∧ s.pcount = n := by
  simp only [State.buildingFor, Bool.and_eq_true, Bool.or_eq_true, performing_iff, beq_iff_eq]
  constructor
  · rintro ⟨⟨⟨h1, h2, h3⟩ | ⟨h1, h2, h3⟩, h4⟩, h5⟩ <;> simp [*]
  · rintro ⟨h1, h2 | h2, h3, h4, h5⟩ <;> simp [*]

/-- Where the validator classifies, and what (R115, R121). -/
theorem underTest_eq_some (s : State) (buf : List Byte) :
    s.underTest = some buf ↔
      (s.seq = .compute ∧ s.op = .classify ∧ s.lat = 0 ∧ buf = s.hostBytes) ∨
      (s.seq = .validated ∧ s.op = .execute ∧ s.lat = 0 ∧ buf = s.received) := by
  unfold State.underTest
  split
  · next h => rw [performing_iff] at h; simp [h, eq_comm]
  · next h =>
    rw [performing_iff] at h
    split
    · next h' =>
      simp only [Bool.and_eq_true, beq_iff_eq] at h'
      simp [h', eq_comm]
    · next h' =>
      simp only [Bool.and_eq_true, beq_iff_eq] at h'
      simp only [reduceCtorEq, false_iff]
      tauto

/-! ### The ports' part of a cycle -/

/-- A host read leaves its value, and draws a free one (R54). -/
theorem hostRead_cases (s : State) :
    (s.ports.reads = true ∧
      hostRead s = { s with rdata := some (s.readReg (regAt s.ports.busAddr)), hostDraws := s.hostDraws + 1 }) ∨
    (s.ports.reads = false ∧ hostRead s = s) := by
  unfold hostRead; split <;> simp_all

@[simp] theorem hostRead_seq (s : State) : (hostRead s).seq = s.seq := by unfold hostRead; split <;> rfl
@[simp] theorem hostRead_op (s : State) : (hostRead s).op = s.op := by unfold hostRead; split <;> rfl
@[simp] theorem hostRead_txIdx (s : State) : (hostRead s).txIdx = s.txIdx := by unfold hostRead; split <;> rfl
@[simp] theorem hostRead_rxN (s : State) : (hostRead s).rxN = s.rxN := by unfold hostRead; split <;> rfl
@[simp] theorem hostRead_rxLen (s : State) : (hostRead s).rxLen = s.rxLen := by unfold hostRead; split <;> rfl
@[simp] theorem hostRead_timer (s : State) : (hostRead s).timer = s.timer := by unfold hostRead; split <;> rfl
@[simp] theorem hostRead_lat (s : State) : (hostRead s).lat = s.lat := by unfold hostRead; split <;> rfl
@[simp] theorem hostRead_done (s : State) : (hostRead s).done = s.done := by unfold hostRead; split <;> rfl
@[simp] theorem hostRead_rejected (s : State) : (hostRead s).rejected = s.rejected := by unfold hostRead; split <;> rfl
@[simp] theorem hostRead_verifyOk (s : State) : (hostRead s).verifyOk = s.verifyOk := by unfold hostRead; split <;> rfl
@[simp] theorem hostRead_strayRx (s : State) : (hostRead s).strayRx = s.strayRx := by unfold hostRead; split <;> rfl
@[simp] theorem hostRead_outcome (s : State) : (hostRead s).outcome = s.outcome := by unfold hostRead; split <;> rfl
@[simp] theorem hostRead_preErr (s : State) : (hostRead s).preErr = s.preErr := by unfold hostRead; split <;> rfl
@[simp] theorem hostRead_failCause (s : State) : (hostRead s).failCause = s.failCause := by unfold hostRead; split <;> rfl
@[simp] theorem hostRead_errSlot (s : State) : (hostRead s).errSlot = s.errSlot := by unfold hostRead; split <;> rfl
@[simp] theorem hostRead_result (s : State) : (hostRead s).result = s.result := by unfold hostRead; split <;> rfl
@[simp] theorem hostRead_ie (s : State) : (hostRead s).ie = s.ie := by unfold hostRead; split <;> rfl
@[simp] theorem hostRead_func (s : State) : (hostRead s).func = s.func := by unfold hostRead; split <;> rfl
@[simp] theorem hostRead_pcount (s : State) : (hostRead s).pcount = s.pcount := by unfold hostRead; split <;> rfl
@[simp] theorem hostRead_timeout (s : State) : (hostRead s).timeout = s.timeout := by unfold hostRead; split <;> rfl
@[simp] theorem hostRead_crcExpect (s : State) : (hostRead s).crcExpect = s.crcExpect := by unfold hostRead; split <;> rfl
@[simp] theorem hostRead_crcResult (s : State) : (hostRead s).crcResult = s.crcResult := by unfold hostRead; split <;> rfl
@[simp] theorem hostRead_txLen (s : State) : (hostRead s).txLen = s.txLen := by unfold hostRead; split <;> rfl
@[simp] theorem hostRead_rxCount (s : State) : (hostRead s).rxCount = s.rxCount := by unfold hostRead; split <;> rfl
@[simp] theorem hostRead_slots (s : State) : (hostRead s).slots = s.slots := by unfold hostRead; split <;> rfl
@[simp] theorem hostRead_txbuf (s : State) : (hostRead s).txbuf = s.txbuf := by unfold hostRead; split <;> rfl
@[simp] theorem hostRead_rxbuf (s : State) : (hostRead s).rxbuf = s.rxbuf := by unfold hostRead; split <;> rfl
@[simp] theorem hostRead_ports (s : State) : (hostRead s).ports = s.ports := by unfold hostRead; split <;> rfl
@[simp] theorem hostRead_inputs (s : State) : (hostRead s).inputs = s.inputs := by unfold hostRead; split <;> rfl
@[simp] theorem hostRead_taken (s : State) : (hostRead s).taken = s.taken := by unfold hostRead; split <;> rfl
@[simp] theorem hostRead_opDraws (s : State) : (hostRead s).opDraws = s.opDraws := by unfold hostRead; split <;> rfl
@[simp] theorem hostRead_idleDraws (s : State) : (hostRead s).idleDraws = s.idleDraws := by unfold hostRead; split <;> rfl

/-! What no register write changes (R22-R37). -/
@[simp] theorem writeReg_seq (s : State) (r : HostReg) (v : Word) : (s.writeReg r v).seq = s.seq := by
  unfold State.writeReg whenIdle; split <;> first | rfl | (split <;> rfl)
@[simp] theorem writeReg_op (s : State) (r : HostReg) (v : Word) : (s.writeReg r v).op = s.op := by
  unfold State.writeReg whenIdle; split <;> first | rfl | (split <;> rfl)
@[simp] theorem writeReg_txIdx (s : State) (r : HostReg) (v : Word) : (s.writeReg r v).txIdx = s.txIdx := by
  unfold State.writeReg whenIdle; split <;> first | rfl | (split <;> rfl)
@[simp] theorem writeReg_rxN (s : State) (r : HostReg) (v : Word) : (s.writeReg r v).rxN = s.rxN := by
  unfold State.writeReg whenIdle; split <;> first | rfl | (split <;> rfl)
@[simp] theorem writeReg_rxLen (s : State) (r : HostReg) (v : Word) : (s.writeReg r v).rxLen = s.rxLen := by
  unfold State.writeReg whenIdle; split <;> first | rfl | (split <;> rfl)
@[simp] theorem writeReg_timer (s : State) (r : HostReg) (v : Word) : (s.writeReg r v).timer = s.timer := by
  unfold State.writeReg whenIdle; split <;> first | rfl | (split <;> rfl)
@[simp] theorem writeReg_lat (s : State) (r : HostReg) (v : Word) : (s.writeReg r v).lat = s.lat := by
  unfold State.writeReg whenIdle; split <;> first | rfl | (split <;> rfl)
@[simp] theorem writeReg_verifyOk (s : State) (r : HostReg) (v : Word) : (s.writeReg r v).verifyOk = s.verifyOk := by
  unfold State.writeReg whenIdle; split <;> first | rfl | (split <;> rfl)
@[simp] theorem writeReg_strayRx (s : State) (r : HostReg) (v : Word) : (s.writeReg r v).strayRx = s.strayRx := by
  unfold State.writeReg whenIdle; split <;> first | rfl | (split <;> rfl)
@[simp] theorem writeReg_outcome (s : State) (r : HostReg) (v : Word) : (s.writeReg r v).outcome = s.outcome := by
  unfold State.writeReg whenIdle; split <;> first | rfl | (split <;> rfl)
@[simp] theorem writeReg_preErr (s : State) (r : HostReg) (v : Word) : (s.writeReg r v).preErr = s.preErr := by
  unfold State.writeReg whenIdle; split <;> first | rfl | (split <;> rfl)
@[simp] theorem writeReg_failCause (s : State) (r : HostReg) (v : Word) : (s.writeReg r v).failCause = s.failCause := by
  unfold State.writeReg whenIdle; split <;> first | rfl | (split <;> rfl)
@[simp] theorem writeReg_errSlot (s : State) (r : HostReg) (v : Word) : (s.writeReg r v).errSlot = s.errSlot := by
  unfold State.writeReg whenIdle; split <;> first | rfl | (split <;> rfl)
@[simp] theorem writeReg_result (s : State) (r : HostReg) (v : Word) : (s.writeReg r v).result = s.result := by
  unfold State.writeReg whenIdle; split <;> first | rfl | (split <;> rfl)
@[simp] theorem writeReg_crcResult (s : State) (r : HostReg) (v : Word) : (s.writeReg r v).crcResult = s.crcResult := by
  unfold State.writeReg whenIdle; split <;> first | rfl | (split <;> rfl)
@[simp] theorem writeReg_txLen (s : State) (r : HostReg) (v : Word) : (s.writeReg r v).txLen = s.txLen := by
  unfold State.writeReg whenIdle; split <;> first | rfl | (split <;> rfl)
@[simp] theorem writeReg_txbuf (s : State) (r : HostReg) (v : Word) : (s.writeReg r v).txbuf = s.txbuf := by
  unfold State.writeReg whenIdle; split <;> first | rfl | (split <;> rfl)
@[simp] theorem writeReg_ports (s : State) (r : HostReg) (v : Word) : (s.writeReg r v).ports = s.ports := by
  unfold State.writeReg whenIdle; split <;> first | rfl | (split <;> rfl)
@[simp] theorem writeReg_inputs (s : State) (r : HostReg) (v : Word) : (s.writeReg r v).inputs = s.inputs := by
  unfold State.writeReg whenIdle; split <;> first | rfl | (split <;> rfl)
@[simp] theorem writeReg_rdata (s : State) (r : HostReg) (v : Word) : (s.writeReg r v).rdata = s.rdata := by
  unfold State.writeReg whenIdle; split <;> first | rfl | (split <;> rfl)
@[simp] theorem writeReg_taken (s : State) (r : HostReg) (v : Word) : (s.writeReg r v).taken = s.taken := by
  unfold State.writeReg whenIdle; split <;> first | rfl | (split <;> rfl)
@[simp] theorem writeReg_opDraws (s : State) (r : HostReg) (v : Word) : (s.writeReg r v).opDraws = s.opDraws := by
  unfold State.writeReg whenIdle; split <;> first | rfl | (split <;> rfl)
@[simp] theorem writeReg_hostDraws (s : State) (r : HostReg) (v : Word) : (s.writeReg r v).hostDraws = s.hostDraws := by
  unfold State.writeReg whenIdle; split <;> first | rfl | (split <;> rfl)
@[simp] theorem writeReg_idleDraws (s : State) (r : HostReg) (v : Word) : (s.writeReg r v).idleDraws = s.idleDraws := by
  unfold State.writeReg whenIdle; split <;> first | rfl | (split <;> rfl)

/-- What a register write can do while BUSY (R42, R43): set REJECTED, set CTRL.IE, or clear DONE. -/
theorem writeReg_busy (s : State) (r : HostReg) (v : Word) (h : s.busy = true) :
    s.writeReg r v =
      { s with
        rejected := s.rejected || decide (r = .cmd)
        ie := if r = .ctrl then v.getLsbD 0 else s.ie
        done := s.done && !(decide (r = .status) && v.getLsbD 1) } := by
  cases r <;> simp [State.writeReg, whenIdle, h]
  split <;> simp [clearDone, *]

/-! What no host write changes. -/
@[simp] theorem hostWrite_seq (s : State) : (hostWrite s).seq = s.seq := by unfold hostWrite; split <;> simp
@[simp] theorem hostWrite_op (s : State) : (hostWrite s).op = s.op := by unfold hostWrite; split <;> simp
@[simp] theorem hostWrite_txIdx (s : State) : (hostWrite s).txIdx = s.txIdx := by unfold hostWrite; split <;> simp
@[simp] theorem hostWrite_rxN (s : State) : (hostWrite s).rxN = s.rxN := by unfold hostWrite; split <;> simp
@[simp] theorem hostWrite_rxLen (s : State) : (hostWrite s).rxLen = s.rxLen := by unfold hostWrite; split <;> simp
@[simp] theorem hostWrite_timer (s : State) : (hostWrite s).timer = s.timer := by unfold hostWrite; split <;> simp
@[simp] theorem hostWrite_lat (s : State) : (hostWrite s).lat = s.lat := by unfold hostWrite; split <;> simp
@[simp] theorem hostWrite_verifyOk (s : State) : (hostWrite s).verifyOk = s.verifyOk := by unfold hostWrite; split <;> simp
@[simp] theorem hostWrite_strayRx (s : State) : (hostWrite s).strayRx = s.strayRx := by unfold hostWrite; split <;> simp
@[simp] theorem hostWrite_outcome (s : State) : (hostWrite s).outcome = s.outcome := by unfold hostWrite; split <;> simp
@[simp] theorem hostWrite_preErr (s : State) : (hostWrite s).preErr = s.preErr := by unfold hostWrite; split <;> simp
@[simp] theorem hostWrite_failCause (s : State) : (hostWrite s).failCause = s.failCause := by unfold hostWrite; split <;> simp
@[simp] theorem hostWrite_errSlot (s : State) : (hostWrite s).errSlot = s.errSlot := by unfold hostWrite; split <;> simp
@[simp] theorem hostWrite_result (s : State) : (hostWrite s).result = s.result := by unfold hostWrite; split <;> simp
@[simp] theorem hostWrite_crcResult (s : State) : (hostWrite s).crcResult = s.crcResult := by unfold hostWrite; split <;> simp
@[simp] theorem hostWrite_txLen (s : State) : (hostWrite s).txLen = s.txLen := by unfold hostWrite; split <;> simp
@[simp] theorem hostWrite_txbuf (s : State) : (hostWrite s).txbuf = s.txbuf := by unfold hostWrite; split <;> simp
@[simp] theorem hostWrite_ports (s : State) : (hostWrite s).ports = s.ports := by unfold hostWrite; split <;> simp
@[simp] theorem hostWrite_inputs (s : State) : (hostWrite s).inputs = s.inputs := by unfold hostWrite; split <;> simp
@[simp] theorem hostWrite_rdata (s : State) : (hostWrite s).rdata = s.rdata := by unfold hostWrite; split <;> simp
@[simp] theorem hostWrite_taken (s : State) : (hostWrite s).taken = s.taken := by unfold hostWrite; split <;> simp
@[simp] theorem hostWrite_opDraws (s : State) : (hostWrite s).opDraws = s.opDraws := by unfold hostWrite; split <;> simp
@[simp] theorem hostWrite_hostDraws (s : State) : (hostWrite s).hostDraws = s.hostDraws := by unfold hostWrite; split <;> simp
@[simp] theorem hostWrite_idleDraws (s : State) : (hostWrite s).idleDraws = s.idleDraws := by unfold hostWrite; split <;> simp

/-- What a host write can do while BUSY. -/
theorem hostWrite_busy (s : State) (h : s.busy = true) :
    hostWrite s =
      { s with
        rejected := s.rejected || (s.ports.writes && decide (regAt s.ports.busAddr = .cmd))
        ie := if s.ports.writes = true ∧ regAt s.ports.busAddr = .ctrl then s.ports.busWdata.getLsbD 0 else s.ie
        done := s.done && !(s.ports.writes && decide (regAt s.ports.busAddr = .status) && s.ports.busWdata.getLsbD 1) } := by
  unfold hostWrite
  split
  · rw [writeReg_busy _ _ _ h]; simp [*]
  · simp [*]

/-- A discarded byte sets STRAY_RX and nothing else (R45). -/
theorem strayByte_eq (s : State) :
    strayByte s =
      { s with strayRx := s.strayRx || (s.ports.rxValid && decide (s.seq ≠ .awaitLen) && decide (s.seq ≠ .awaitBody)) } := by
  unfold strayByte
  ext : 1 <;> split <;> (try split) <;> simp_all

@[simp] theorem strayByte_seq (s : State) : (strayByte s).seq = s.seq := by rw [strayByte_eq]
@[simp] theorem strayByte_op (s : State) : (strayByte s).op = s.op := by rw [strayByte_eq]
@[simp] theorem strayByte_txIdx (s : State) : (strayByte s).txIdx = s.txIdx := by rw [strayByte_eq]
@[simp] theorem strayByte_rxN (s : State) : (strayByte s).rxN = s.rxN := by rw [strayByte_eq]
@[simp] theorem strayByte_rxLen (s : State) : (strayByte s).rxLen = s.rxLen := by rw [strayByte_eq]
@[simp] theorem strayByte_timer (s : State) : (strayByte s).timer = s.timer := by rw [strayByte_eq]
@[simp] theorem strayByte_lat (s : State) : (strayByte s).lat = s.lat := by rw [strayByte_eq]
@[simp] theorem strayByte_done (s : State) : (strayByte s).done = s.done := by rw [strayByte_eq]
@[simp] theorem strayByte_rejected (s : State) : (strayByte s).rejected = s.rejected := by rw [strayByte_eq]
@[simp] theorem strayByte_verifyOk (s : State) : (strayByte s).verifyOk = s.verifyOk := by rw [strayByte_eq]
@[simp] theorem strayByte_outcome (s : State) : (strayByte s).outcome = s.outcome := by rw [strayByte_eq]
@[simp] theorem strayByte_preErr (s : State) : (strayByte s).preErr = s.preErr := by rw [strayByte_eq]
@[simp] theorem strayByte_failCause (s : State) : (strayByte s).failCause = s.failCause := by rw [strayByte_eq]
@[simp] theorem strayByte_errSlot (s : State) : (strayByte s).errSlot = s.errSlot := by rw [strayByte_eq]
@[simp] theorem strayByte_result (s : State) : (strayByte s).result = s.result := by rw [strayByte_eq]
@[simp] theorem strayByte_ie (s : State) : (strayByte s).ie = s.ie := by rw [strayByte_eq]
@[simp] theorem strayByte_func (s : State) : (strayByte s).func = s.func := by rw [strayByte_eq]
@[simp] theorem strayByte_pcount (s : State) : (strayByte s).pcount = s.pcount := by rw [strayByte_eq]
@[simp] theorem strayByte_timeout (s : State) : (strayByte s).timeout = s.timeout := by rw [strayByte_eq]
@[simp] theorem strayByte_crcExpect (s : State) : (strayByte s).crcExpect = s.crcExpect := by rw [strayByte_eq]
@[simp] theorem strayByte_crcResult (s : State) : (strayByte s).crcResult = s.crcResult := by rw [strayByte_eq]
@[simp] theorem strayByte_txLen (s : State) : (strayByte s).txLen = s.txLen := by rw [strayByte_eq]
@[simp] theorem strayByte_rxCount (s : State) : (strayByte s).rxCount = s.rxCount := by rw [strayByte_eq]
@[simp] theorem strayByte_slots (s : State) : (strayByte s).slots = s.slots := by rw [strayByte_eq]
@[simp] theorem strayByte_txbuf (s : State) : (strayByte s).txbuf = s.txbuf := by rw [strayByte_eq]
@[simp] theorem strayByte_rxbuf (s : State) : (strayByte s).rxbuf = s.rxbuf := by rw [strayByte_eq]
@[simp] theorem strayByte_ports (s : State) : (strayByte s).ports = s.ports := by rw [strayByte_eq]
@[simp] theorem strayByte_inputs (s : State) : (strayByte s).inputs = s.inputs := by rw [strayByte_eq]
@[simp] theorem strayByte_rdata (s : State) : (strayByte s).rdata = s.rdata := by rw [strayByte_eq]
@[simp] theorem strayByte_taken (s : State) : (strayByte s).taken = s.taken := by rw [strayByte_eq]
@[simp] theorem strayByte_opDraws (s : State) : (strayByte s).opDraws = s.opDraws := by rw [strayByte_eq]
@[simp] theorem strayByte_hostDraws (s : State) : (strayByte s).hostDraws = s.hostDraws := by rw [strayByte_eq]
@[simp] theorem strayByte_idleDraws (s : State) : (strayByte s).idleDraws = s.idleDraws := by rw [strayByte_eq]

/-! What the ports' part of a cycle never changes. -/
@[simp] theorem portSide_seq (s : State) : (portSide s).seq = s.seq := by simp [portSide]
@[simp] theorem portSide_op (s : State) : (portSide s).op = s.op := by simp [portSide]
@[simp] theorem portSide_txIdx (s : State) : (portSide s).txIdx = s.txIdx := by simp [portSide]
@[simp] theorem portSide_rxN (s : State) : (portSide s).rxN = s.rxN := by simp [portSide]
@[simp] theorem portSide_rxLen (s : State) : (portSide s).rxLen = s.rxLen := by simp [portSide]
@[simp] theorem portSide_timer (s : State) : (portSide s).timer = s.timer := by simp [portSide]
@[simp] theorem portSide_lat (s : State) : (portSide s).lat = s.lat := by simp [portSide]
@[simp] theorem portSide_verifyOk (s : State) : (portSide s).verifyOk = s.verifyOk := by simp [portSide]
@[simp] theorem portSide_outcome (s : State) : (portSide s).outcome = s.outcome := by simp [portSide]
@[simp] theorem portSide_preErr (s : State) : (portSide s).preErr = s.preErr := by simp [portSide]
@[simp] theorem portSide_failCause (s : State) : (portSide s).failCause = s.failCause := by simp [portSide]
@[simp] theorem portSide_errSlot (s : State) : (portSide s).errSlot = s.errSlot := by simp [portSide]
@[simp] theorem portSide_result (s : State) : (portSide s).result = s.result := by simp [portSide]
@[simp] theorem portSide_crcResult (s : State) : (portSide s).crcResult = s.crcResult := by simp [portSide]
@[simp] theorem portSide_txLen (s : State) : (portSide s).txLen = s.txLen := by simp [portSide]
@[simp] theorem portSide_txbuf (s : State) : (portSide s).txbuf = s.txbuf := by simp [portSide]
@[simp] theorem portSide_ports (s : State) : (portSide s).ports = s.ports := by simp [portSide]
@[simp] theorem portSide_inputs (s : State) : (portSide s).inputs = s.inputs := by simp [portSide]
@[simp] theorem portSide_taken (s : State) : (portSide s).taken = s.taken := by simp [portSide]
@[simp] theorem portSide_opDraws (s : State) : (portSide s).opDraws = s.opDraws := by simp [portSide]
@[simp] theorem portSide_idleDraws (s : State) : (portSide s).idleDraws = s.idleDraws := by simp [portSide]

/-- What the ports can do while BUSY: no request register, no buffer and no result register changes (R43). -/
theorem portSide_busy (s : State) (h : s.busy = true) :
    portSide s =
      { s with
        rdata := (hostRead s).rdata
        hostDraws := (hostRead s).hostDraws
        rejected := s.rejected || (s.ports.writes && decide (regAt s.ports.busAddr = .cmd))
        ie := if s.ports.writes = true ∧ regAt s.ports.busAddr = .ctrl then s.ports.busWdata.getLsbD 0 else s.ie
        done := s.done && !(s.ports.writes && decide (regAt s.ports.busAddr = .status) && s.ports.busWdata.getLsbD 1)
        strayRx := s.strayRx || (s.ports.rxValid && decide (s.seq ≠ .awaitLen) && decide (s.seq ≠ .awaitBody)) } := by
  have hb : (hostRead s).busy = true := by simpa [State.busy] using h
  unfold portSide
  rw [strayByte_eq, hostWrite_busy _ hb]
  rcases hostRead_cases s with ⟨_, e⟩ | ⟨_, e⟩ <;> rw [e]

/-! ### An operation's cycles -/

/-- The one cycle of an operation that works in COMPUTE, by case (R117). -/
theorem localCycle_cases (o : Op) (act : State → State) (s : State) :
    (s.seq = .idle ∧ localCycle o act s = accept o s) ∨
    (s.seq = .compute ∧ s.op = o ∧ s.lat = 0 ∧ localCycle o act s = act s) ∨
    (s.seq = .compute ∧ s.op = o ∧ s.lat ≠ 0 ∧ localCycle o act s = waitCycle s) ∨
    (s.seq ≠ .idle ∧ (s.seq = .compute → s.op ≠ o) ∧ localCycle o act s = s) := by
  unfold localCycle
  cases h : s.seq <;> simp
  by_cases ho : s.op = o <;> by_cases hl : s.lat = 0 <;> simp [ho, hl]

theorem localCycle_idle (o : Op) (act : State → State) (s : State) (h : s.seq = .idle) :
    localCycle o act s = accept o s := by simp [localCycle, h]

theorem localCycle_wait (o : Op) (act : State → State) (s : State) (h : s.seq = .compute) (ho : s.op = o)
    (hl : s.lat ≠ 0) : localCycle o act s = waitCycle s := by simp [localCycle, h, ho, hl]

/-- An operation's own cycle of COMPUTE is its work. -/
theorem localCycle_performing (o : Op) (act : State → State) (s : State) (h : s.performing o = true) :
    localCycle o act s = act s := by
  rw [performing_iff] at h; simp [localCycle, h]

/-- Every meaning answers a next state (R22, R133; log entry 11). -/
theorem exec_answers_next (i : Instr) (s : State) : ∃ t, exec i s = .next t := by
  cases i <;> exact ⟨_, rfl⟩

/-! ### The step -/

/-- The instruction of an operation (R76). -/
def Op.instr : Op → Instr
  | .nop => .nop | .encode => .encode | .merge => .merge | .build => .build
  | .checksum => .checksum | .verify => .verify | .classify => .classify | .execute => .execute

@[simp] theorem decodeCmd_code (o : Op) : decodeCmd (o.code.setWidth 32) = o.instr := by cases o <;> rfl

theorem decodeCmd_eq (w : Word) : decodeCmd w = (Op.ofCode (w.extractLsb' 0 3)).instr := by
  unfold decodeCmd; cases Op.ofCode (w.extractLsb' 0 3) <;> rfl

/-- In IDLE any operation is accepted alike (R42). -/
theorem exec_instr_idle (o : Op) (s : State) (h : s.seq = .idle) : exec o.instr s = .next (accept o s) := by
  cases o <;>
    simp [Op.instr, exec, execNop, execEncode, execMerge, execBuild, execChecksum, execVerify, execClassify, execExecute,
      executeCycle, localCycle, h]

/-- Before an operation's own cycle of COMPUTE, a cycle only passes (R111, R117). -/
theorem exec_instr_wait (s : State) (h : s.seq = .compute) (hl : s.lat ≠ 0) :
    exec s.op.instr s = .next (waitCycle s) := by
  generalize ho : s.op = o
  cases o <;>
    simp [Op.instr, exec, execNop, execEncode, execMerge, execBuild, execChecksum, execVerify, execClassify, execExecute,
      executeCycle, localCycle, h, hl, ho]

theorem step_reset (s : State) (h : s.latch.ports.rst = true) : step s = .next (resetCycle s.latch) := by
  simp [step, h]

/-- While BUSY a cycle runs the operation in progress (R39, R117). -/
theorem step_busy (s : State) (h : s.latch.ports.rst = false) (hb : s.busy = true) :
    step s = exec s.op.instr (portSide s.latch) := by
  have hb' : s.latch.busy = true := by simpa [State.busy] using hb
  simp [step, h, State.fetch, State.fetchWord, hb']

/-- In IDLE a CMD write is accepted (R42). -/
theorem step_idle_cmd (s : State) (h : s.latch.ports.rst = false) (hb : s.busy = false)
    (hc : s.latch.ports.writesCmd = true) :
    step s = .next (accept (Op.ofCode (s.latch.ports.busWdata.extractLsb' 0 3)) (portSide s.latch)) := by
  have hb' : s.latch.busy = false := by simpa [State.busy] using hb
  have hi : (portSide s.latch).seq = .idle := by simpa [not_busy_iff] using hb
  simp [step, h, State.fetch, State.fetchWord, hb', hc, decodeCmd_eq, exec_instr_idle _ _ hi]

/-- In IDLE without a CMD write only the ports act. -/
theorem step_idle_quiet (s : State) (h : s.latch.ports.rst = false) (hb : s.busy = false)
    (hc : s.latch.ports.writesCmd = false) : step s = .next (portSide s.latch) := by
  have hb' : s.latch.busy = false := by simpa [State.busy] using hb
  simp [step, h, State.fetch, State.fetchWord, hb', hc]

/-- Everything a step can do. -/
theorem step_cases (s t : State) (h : step s = .next t) :
    (s.latch.ports.rst = true ∧ t = resetCycle s.latch) ∨
    (s.latch.ports.rst = false ∧ s.busy = true ∧ exec s.op.instr (portSide s.latch) = .next t) ∨
    (s.latch.ports.rst = false ∧ s.busy = false ∧ s.latch.ports.writesCmd = true ∧
      t = accept (Op.ofCode (s.latch.ports.busWdata.extractLsb' 0 3)) (portSide s.latch)) ∨
    (s.latch.ports.rst = false ∧ s.busy = false ∧ s.latch.ports.writesCmd = false ∧ t = portSide s.latch) := by
  cases hr : s.latch.ports.rst
  · cases hb : s.busy
    · cases hc : s.latch.ports.writesCmd
      · rw [step_idle_quiet s hr hb hc] at h; simp_all
      · rw [step_idle_cmd s hr hb hc] at h; simp_all
    · rw [step_busy s hr hb] at h; simp_all
  · rw [step_reset s hr] at h; simp_all

end Sys2Proof.Machine
end

