-- ==== Sys2Proof/Laws/PerInstr.lean ====
section
/-! SUPPORT. The rows of spec/opcode_table.json, and one lemma per instruction: its encoding has the bits its row fixes. -/

namespace Sys2Proof.Laws.TableBits

-- one theorem after the other, in no threads of their own
set_option Elab.async false

/-- The word a row's match and mask speak of: the CMD word, the command word, or the first byte. -/
def headWord : Code → Nat
  | .cmd w => w.toNat
  | .commandWord w => w.toNat
  | .group bs | .request bs | .response bs => (bs.headD 0).toNat
  | .resultCode b => b.toNat

/-- The match and mask of an instruction's row; the two frames' rows fix no bits. -/
def row : Instr → Nat × Nat
  | .nop => (0x00000000, 0x00000007)
  | .encode => (0x00000001, 0x00000007)
  | .merge => (0x00000002, 0x00000007)
  | .build => (0x00000003, 0x00000007)
  | .checksum => (0x00000004, 0x00000007)
  | .verify => (0x00000005, 0x00000007)
  | .classify => (0x00000006, 0x00000007)
  | .execute => (0x00000007, 0x00000007)
  | .paramUint8 _ => (0x10, 0xFF)
  | .paramUint16 _ => (0x20, 0xFF)
  | .paramUint32 _ => (0x30, 0xFF)
  | .pairUint8Uint8 _ _ => (0x11, 0xFF)
  | .pairUint8Uint16 _ _ => (0x12, 0xFF)
  | .pairUint8Uint32 _ _ => (0x13, 0xFF)
  | .pairUint16Uint8 _ _ => (0x21, 0xFF)
  | .pairUint16Uint16 _ _ => (0x22, 0xFF)
  | .pairUint16Uint32 _ _ => (0x23, 0xFF)
  | .pairUint32Uint8 _ _ => (0x31, 0xFF)
  | .pairUint32Uint16 _ _ => (0x32, 0xFF)
  | .pairUint32Uint32 _ _ => (0x33, 0xFF)
  | .cmdword _ _ => (0x0000, 0x0000)
  | .requestFrame _ _ => (0x00, 0x00)
  | .responseFrame _ => (0x00, 0x00)
  | .fc010 => (0x0101, 0xFFFF)
  | .fc011 => (0x0111, 0xFFFF)
  | .fc021 => (0x0211, 0xFFFF)
  | .fc031 => (0x0311, 0xFFFF)
  | .fc041 => (0x0411, 0xFFFF)
  | .fc051 => (0x0511, 0xFFFF)
  | .noError => (0x00, 0xFF)
  | .crcError => (0x01, 0xFF)
  | .methodError => (0x02, 0xFF)
  | .parametersError => (0x03, 0xFF)
  | .tooEarlyError => (0x04, 0xFF)
  | .timeoutError => (0x05, 0xFF)
  | .undefinedError => (0x06, 0xFF)
  | .redefinedError => (0x07, 0xFF)
  | .genericError => (0xFF, 0xFF)

/-- A well-formed instruction's encoding has the bits its row of the opcode table fixes. -/
def Statement (i : Instr) : Prop := i.wellFormed = true → headWord (Sys2Proof.encode i) &&& (row i).2 = (row i).1

theorem nop : Statement .nop := fun _ => rfl

theorem encode : Statement .encode := fun _ => rfl

theorem merge : Statement .merge := fun _ => rfl

theorem build : Statement .build := fun _ => rfl

theorem checksum : Statement .checksum := fun _ => rfl

theorem verify : Statement .verify := fun _ => rfl

theorem classify : Statement .classify := fun _ => rfl

theorem execute : Statement .execute := fun _ => rfl

theorem paramUint8 (v : BitVec 8) : Statement (.paramUint8 v) := by
  intro _; simp [headWord, row, Sys2Proof.encode, groupBytes]

theorem paramUint16 (v : BitVec 16) : Statement (.paramUint16 v) := by
  intro _; simp [headWord, row, Sys2Proof.encode, groupBytes]

theorem paramUint32 (v : BitVec 32) : Statement (.paramUint32 v) := by
  intro _; simp [headWord, row, Sys2Proof.encode, groupBytes]

theorem pairUint8Uint8 (v1 : BitVec 8) (v2 : BitVec 8) : Statement (.pairUint8Uint8 v1 v2) := by
  intro _; simp [headWord, row, Sys2Proof.encode, groupBytes]

theorem pairUint8Uint16 (v1 : BitVec 8) (v2 : BitVec 16) : Statement (.pairUint8Uint16 v1 v2) := by
  intro _; simp [headWord, row, Sys2Proof.encode, groupBytes]

theorem pairUint8Uint32 (v1 : BitVec 8) (v2 : BitVec 32) : Statement (.pairUint8Uint32 v1 v2) := by
  intro _; simp [headWord, row, Sys2Proof.encode, groupBytes]

theorem pairUint16Uint8 (v1 : BitVec 16) (v2 : BitVec 8) : Statement (.pairUint16Uint8 v1 v2) := by
  intro _; simp [headWord, row, Sys2Proof.encode, groupBytes]

theorem pairUint16Uint16 (v1 : BitVec 16) (v2 : BitVec 16) : Statement (.pairUint16Uint16 v1 v2) := by
  intro _; simp [headWord, row, Sys2Proof.encode, groupBytes]

theorem pairUint16Uint32 (v1 : BitVec 16) (v2 : BitVec 32) : Statement (.pairUint16Uint32 v1 v2) := by
  intro _; simp [headWord, row, Sys2Proof.encode, groupBytes]

theorem pairUint32Uint8 (v1 : BitVec 32) (v2 : BitVec 8) : Statement (.pairUint32Uint8 v1 v2) := by
  intro _; simp [headWord, row, Sys2Proof.encode, groupBytes]

theorem pairUint32Uint16 (v1 : BitVec 32) (v2 : BitVec 16) : Statement (.pairUint32Uint16 v1 v2) := by
  intro _; simp [headWord, row, Sys2Proof.encode, groupBytes]

theorem pairUint32Uint32 (v1 : BitVec 32) (v2 : BitVec 32) : Statement (.pairUint32Uint32 v1 v2) := by
  intro _; simp [headWord, row, Sys2Proof.encode, groupBytes]

theorem cmdword (functionCode : BitVec 12) (count : BitVec 4) : Statement (.cmdword functionCode count) := by intro _; simp [headWord, row]

theorem requestFrame (functionCode : BitVec 12) (params : List Param) : Statement (.requestFrame functionCode params) := by intro _; simp [headWord, row]

theorem responseFrame (payload : List Byte) : Statement (.responseFrame payload) := by intro _; simp [headWord, row]

theorem fc010 : Statement .fc010 := fun _ => rfl

theorem fc011 : Statement .fc011 := fun _ => rfl

theorem fc021 : Statement .fc021 := fun _ => rfl

theorem fc031 : Statement .fc031 := fun _ => rfl

theorem fc041 : Statement .fc041 := fun _ => rfl

theorem fc051 : Statement .fc051 := fun _ => rfl

theorem noError : Statement .noError := fun _ => rfl

theorem crcError : Statement .crcError := fun _ => rfl

theorem methodError : Statement .methodError := fun _ => rfl

theorem parametersError : Statement .parametersError := fun _ => rfl

theorem tooEarlyError : Statement .tooEarlyError := fun _ => rfl

theorem timeoutError : Statement .timeoutError := fun _ => rfl

theorem undefinedError : Statement .undefinedError := fun _ => rfl

theorem redefinedError : Statement .redefinedError := fun _ => rfl

theorem genericError : Statement .genericError := fun _ => rfl

end Sys2Proof.Laws.TableBits
end

