-- ==== Sys2Proof/Laws/Wire.lean ====
section
/-! SUPPORT. Laws of the packer's checks and of build. -/

namespace Sys2Proof.Machine

/-! ### Checks -/

theorem typeOfTag_tagOf (t : IntType) : typeOfTag (tagOf t) = some t := by cases t <;> rfl

theorem typeOfTag_eq_some (t : Byte) (ty : IntType) : typeOfTag t = some ty ↔ t = tagOf ty := by
  constructor
  · intro h
    unfold typeOfTag at h
    split at h
    · next e => cases h; exact e
    · split at h
      · next e => cases h; exact e
      · split at h
        · next e => cases h; exact e
        · cases h
  · rintro rfl; exact typeOfTag_tagOf ty

theorem typeOfTag_eq_none (t : Byte) : typeOfTag t = none ↔ t ∉ [0x01#8, 0x02#8, 0x03#8] := by
  unfold typeOfTag
  split <;> [simp_all; split] <;> [simp_all; split] <;> simp_all

theorem tagOf_inj (a b : IntType) : tagOf a = tagOf b ↔ a = b := by
  cases a <;> cases b <;> simp [tagOf]

/-- The two checks in one (R80, R81, R82). -/
theorem checkParam_eq (p : Param) (slot : BitVec 4) :
    checkParam p slot =
      match typeOfTag p.tag with
      | none => .error ⟨.unsupportedType, slot⟩
      | some ty => if typeMax ty < p.value.toNat then .error ⟨.valueRange, slot⟩ else .ok ty := by
  have hv := p.value.isLt
  unfold checkParam checkType
  cases typeOfTag p.tag with
  | none => rfl
  | some t =>
    by_cases hm : typeMax t < p.value.toNat
    · simp only [hm, if_true]
      cases t <;> simp only [typeMax] at hm
      · simp [checkRange, hm]
      · simp [checkRange, hm]
      · omega
    · simp only [hm, if_false]
      cases t <;> simp only [typeMax] at hm
      · simp [checkRange, hm]
      · simp [checkRange, hm]
      · rfl

theorem checkParam_ok (p : Param) (slot : BitVec 4) (ty : IntType) :
    checkParam p slot = .ok ty ↔ p.tag = tagOf ty ∧ p.value.toNat ≤ typeMax ty := by
  rw [checkParam_eq]
  cases h : typeOfTag p.tag with
  | none =>
    simp only [reduceCtorEq, false_iff]
    rintro ⟨e, _⟩
    rw [e, typeOfTag_tagOf] at h; cases h
  | some t =>
    rw [typeOfTag_eq_some] at h
    rw [h, tagOf_inj]
    by_cases h' : typeMax t < p.value.toNat
    · simp only [h', if_true, reduceCtorEq, false_iff, not_and, not_le]
      rintro rfl; exact h'
    · simp only [h', if_false, Except.ok.injEq]
      constructor
      · rintro rfl; exact ⟨rfl, by omega⟩
      · exact fun h => h.1

theorem checkParam_error (p : Param) (slot : BitVec 4) (e : Precondition) :
    checkParam p slot = .error e ↔ ∃ c, paramError p = some c ∧ e = ⟨c, slot⟩ := by
  rw [checkParam_eq]
  unfold paramError
  cases typeOfTag p.tag with
  | none => simp [eq_comm]
  | some t =>
    by_cases h' : typeMax t < p.value.toNat <;> simp [h', eq_comm]

theorem paramError_none (p : Param) : paramError p = none ↔ ∃ ty, p.tag = tagOf ty ∧ p.value.toNat ≤ typeMax ty := by
  unfold paramError
  cases h : typeOfTag p.tag with
  | none =>
    simp only [reduceCtorEq, false_iff]
    rintro ⟨ty, e, _⟩
    rw [e, typeOfTag_tagOf] at h; cases h
  | some t =>
    rw [typeOfTag_eq_some] at h
    rw [h]
    simp only [ite_eq_right_iff, reduceCtorEq, imp_false, not_lt]
    constructor
    · intro h; exact ⟨t, rfl, h⟩
    · rintro ⟨t', e, h'⟩; have := (tagOf_inj _ _).1 e; subst this; exact h'

theorem valid_eq (p : Param) : p.valid = true ↔ paramError p = none := by
  rw [paramError_none]
  have hv := p.value.isLt
  simp only [Param.valid, Bool.or_eq_true, Bool.and_eq_true, beq_iff_eq, decide_eq_true_eq]
  constructor
  · rintro ((⟨h, h'⟩ | ⟨h, h'⟩) | h)
    · exact ⟨.uint8, h, h'⟩
    · exact ⟨.uint16, h, h'⟩
    · exact ⟨.uint32, h, by simp only [typeMax]; omega⟩
  · rintro ⟨t, h, h'⟩
    cases t
    · left; left; exact ⟨h, h'⟩
    · left; right; exact ⟨h, h'⟩
    · right; exact h

theorem paramError_ne_none (p : Param) (c : PreErr) (h : paramError p = some c) : c = .unsupportedType ∨ c = .valueRange := by
  unfold paramError at h
  split at h
  · left; simpa [eq_comm] using h
  · split at h
    · right; simpa [eq_comm] using h
    · cases h

/-! ### build -/

/-- What the loop of build answers where every parameter passes (R98). -/
theorem checkParams_valid (i : Nat) (ps : List Param) (h : ps.all Param.valid = true) :
    ∃ qs, checkParams i ps = .ok qs ∧ qs.length = ps.length ∧
      qs.map (fun q => Param.mk (tagOf q.1) q.2) = ps := by
  induction ps generalizing i with
  | nil => exact ⟨[], rfl, rfl, rfl⟩
  | cons p ps ih =>
    simp only [List.all_cons, Bool.and_eq_true] at h
    obtain ⟨ty, h1, h2⟩ := (paramError_none p).1 ((valid_eq p).1 h.1)
    obtain ⟨qs, e, el, em⟩ := ih (i + 1) h.2
    refine ⟨(ty, p.value) :: qs, ?_, by simp [el], ?_⟩
    · simp [checkParams, (checkParam_ok p (BitVec.ofNat 4 i) ty).2 ⟨h1, h2⟩, e]
    · simp only [List.map_cons, em, ← h1]

theorem checkParams_ok (i : Nat) (ps : List Param) (qs : List (IntType × Word)) (h : checkParams i ps = .ok qs) :
    ps.all Param.valid = true ∧ qs.map (fun q => Param.mk (tagOf q.1) q.2) = ps := by
  induction ps generalizing i qs with
  | nil => simp [checkParams] at h; subst h; simp
  | cons p ps ih =>
    rw [checkParams] at h
    split at h
    · cases h
    · next ty e =>
      rw [checkParam_ok] at e
      split at h
      · cases h
      · next rest e2 =>
        cases h
        have := ih _ _ e2
        simp only [List.all_cons, this.1, Bool.and_true, List.map_cons, this.2, ← e.1, and_true]
        rw [valid_eq, paramError_none]
        exact ⟨ty, e⟩

/-- The first parameter that fails decides (R98, R127). -/
theorem checkParams_error (i : Nat) (ps : List Param) (e : Precondition) :
    checkParams i ps = .error e ↔
      ∃ k < ps.length, ∃ c, (∀ j < k, paramError (ps.getD j ⟨0, 0⟩) = none) ∧ paramError (ps.getD k ⟨0, 0⟩) = some c ∧
        e = ⟨c, BitVec.ofNat 4 (i + k)⟩ := by
  induction ps generalizing i with
  | nil => simp [checkParams]
  | cons p ps ih =>
    rw [checkParams]
    cases hp : checkParam p (BitVec.ofNat 4 i) with
    | error e' =>
      rw [checkParam_error] at hp
      obtain ⟨c, hc, rfl⟩ := hp
      constructor
      · intro h; simp only [Except.error.injEq] at h
        exact ⟨0, by simp, c, by simp, by simpa using hc, by simp [← h]⟩
      · rintro ⟨k, hk, c', h1, h2, rfl⟩
        cases k with
        | zero => simp [hc] at h2; simp [h2]
        | succ k => have := h1 0 (by omega); simp [hc] at this
    | ok ty =>
      have hn := (paramError_none p).2 ⟨ty, (checkParam_ok _ _ _).1 hp⟩
      have hih := ih (i + 1)
      simp only
      cases hr : checkParams (i + 1) ps with
      | error e' =>
        simp only [hr] at hih ⊢
        rw [hih]
        constructor
        · rintro ⟨k, hk, c, h1, h2, h3⟩
          refine ⟨k + 1, by simpa using hk, c, ?_, by simpa using h2, by rw [h3]; congr 2; omega⟩
          intro j hj
          cases j with
          | zero => simpa using hn
          | succ j => simpa using h1 j (by omega)
        · rintro ⟨k, hk, c, h1, h2, h3⟩
          cases k with
          | zero => simp [hn] at h2
          | succ k =>
            refine ⟨k, by simpa using hk, c, fun j hj => by simpa using h1 (j + 1) (by omega), by simpa using h2, by rw [h3]; congr 2; omega⟩
      | ok qs =>
        simp only [reduceCtorEq, false_iff]
        rintro ⟨k, hk, c, h1, h2, h3⟩
        simp only [hr, reduceCtorEq, false_iff] at hih
        cases k with
        | zero => simp [hn] at h2
        | succ k =>
          exact hih ⟨k, by simpa using hk, c, fun j hj => by simpa using h1 (j + 1) (by omega), by simpa using h2, by rw [h3]; congr 2; omega⟩

/-- The packer's area is the wire format's (R66, R67, R98). -/
theorem packParams_eq (qs : List (IntType × Word)) :
    packParams qs = areaBytes (qs.map (fun q => Param.mk (tagOf q.1) q.2)) := by
  induction qs using packParams.induct with
  | case1 => rfl
  | case2 t v => 
    cases t <;> simp [packParams, areaBytes, loneRow, typeOfTag, tagOf, encodeParam, vbytes, groupBytes, be16, be32,
      extract_low8, extract_high16, extract_low16]
  | case3 t1 v1 t2 v2 rest ih =>
    cases t1 <;> cases t2 <;> simp [packParams, areaBytes, ih, pairRow, typeOfTag, tagOf, encodeParam, mergeParam, vbytes,
      groupBytes, be16, be32, extract_low8, extract_high16, extract_low16]

theorem commandWord_eq (fc : BitVec 12) (n : BitVec 8) (h : n.toNat ≤ 15) : commandWord fc n = fc ++ n.setWidth 4 := by
  have hn : ∀ n : BitVec 8, n.toNat ≤ 15 → n.setWidth 16 = (n.setWidth 4).setWidth 16 := by decide
  unfold commandWord
  rw [hn n h]
  apply BitVec.eq_of_getLsbD_eq
  intro i hi
  simp only [BitVec.getLsbD_or, BitVec.getLsbD_shiftLeft, BitVec.getLsbD_append, BitVec.getLsbD_setWidth, hi]
  by_cases h4 : i < 4 
  · simp [h4]
  · simp [h4, show i - 4 < 16 by omega]

/-- Every answer of build: the wire format's request frame of valid parameters (R70, R98). -/
theorem build_ok (fc : BitVec 12) (n : BitVec 8) (slots : List Param) (f : List Byte) (hs : slots.length = 15) :
    build fc n slots = .ok f ↔
      n.toNat ≤ 15 ∧ (slots.take n.toNat).all Param.valid = true ∧ f = requestBytes fc (slots.take n.toNat) := by
  unfold build
  by_cases hn : 15 < n.toNat
  · simp [hn]; try omega
  · rw [if_neg hn]
    have hlen : (slots.take n.toNat).length = n.toNat := by simp; omega
    have hasm : ∀ qs : List (IntType × Word), qs.map (fun q => Param.mk (tagOf q.1) q.2) = slots.take n.toNat →
        assemble fc n qs = requestBytes fc (slots.take n.toNat) := by
      intro qs e
      unfold assemble requestBytes
      rw [packParams_eq, e, commandWord_eq _ _ (by omega), hlen]
      have e4 : BitVec.ofNat 4 n.toNat = n.setWidth 4 := by apply BitVec.eq_of_toNat_eq; simp
      rw [e4]
      have e5 : ∀ k, k + 2 + 3 = 1 + 2 + k + 2 := by omega
      simp only [be16, hiByte, loByte, List.length_cons, List.cons_append, List.nil_append]
      congr 2
      · congr 1; omega
    constructor
    · intro h
      split at h
      · cases h
      · next qs e =>
        cases h
        have := checkParams_ok _ _ _ e
        exact ⟨by omega, this.1, hasm _ this.2⟩
    · rintro ⟨_, h2, rfl⟩
      obtain ⟨qs, e, _, em⟩ := checkParams_valid 0 _ h2
      rw [e]; simp only [hasm qs em]

/-- R102. -/
theorem build_length (fc : BitVec 12) (n : BitVec 8) (slots : List Param) (f : List Byte) (hs : slots.length = 15)
    (h : build fc n slots = .ok f) : 5 ≤ f.length ∧ f.length ≤ 73 := by
  rw [build_ok _ _ _ _ hs] at h
  obtain ⟨h1, h2, rfl⟩ := h
  have := areaBytes_length _ h2
  rw [requestBytes_length]
  simp only [List.length_take, hs] at this
  omega

end Sys2Proof.Machine
end

