-- ==== Sys2Proof/Laws/Sequencer.lean ====
section
/-! SUPPORT. Laws of the sequencer's operands and of the rows: the read window, the built frame, parameters of known type,
and what the validator makes of bytes. -/

namespace Sys2Proof.Machine

/-! ### Operands -/

/-- The read window is at least one cycle (R110). -/
theorem window_pos (s : State) : 1 ≤ s.window.toNat := by
  unfold State.window
  split
  · decide
  · next h => by_contra h'; apply h; apply BitVec.eq_of_toNat_eq; simp; omega

theorem slots_length (s : State) : s.slots.toList.length = 15 := by simp

/-- R102. -/
theorem builtFrame_ok (s : State) (f : List Byte) (h : s.builtFrame = .ok f) : 5 ≤ f.length ∧ f.length ≤ 73 :=
  build_length _ _ _ _ (slots_length s) h

/-- The preconditions a request can fail, and their slots (R98, R124). -/
theorem builtFrame_error (s : State) (e : Precondition) (h : s.builtFrame = .error e) :
    (e.code = .tooManyParams ∧ e.slot = 0) ∨ ((e.code = .unsupportedType ∨ e.code = .valueRange) ∧ e.slot.toNat ≤ 14) := by
  unfold State.builtFrame build at h
  split at h
  · cases h; left; exact ⟨rfl, rfl⟩
  · next hn =>
    split at h
    · next e' he =>
      cases h
      rw [checkParams_error] at he
      obtain ⟨k, hk, c, _, hc, rfl⟩ := he
      right
      simp at hk
      refine ⟨paramError_ne_none _ _ hc, ?_⟩
      simp; omega
    · cases h

theorem vbytes_length (t : IntType) (v : Word) : (vbytes t v).length = typeWidth t := by cases t <;> rfl

/-- Where the bytes were written, CHECKSUM, VERIFY and CLASSIFY read exactly them. -/
theorem hostBytes_of_beginsWith (s : State) (bytes : List Byte) (hn : bytes.length = s.rxCount.toNat)
    (h : beginsWith s.rxbuf bytes) : s.hostBytes = bytes := by
  unfold State.hostBytes; rw [← hn]; exact Memory.snapshot_of_beginsWith _ _ _ h

/-- Where the bytes were written, EXECUTE classifies exactly them. -/
theorem received_of_beginsWith (s : State) (bytes : List Byte) (hn : bytes.length = s.rxN.toNat)
    (h : beginsWith s.rxbuf bytes) : s.received = bytes := by
  unfold State.received; rw [← hn]; exact Memory.snapshot_of_beginsWith _ _ _ h

/-! ### Parameters of a known type -/

theorem checkParam_uint8 (v : BitVec 8) (k : BitVec 4) : checkParam ⟨1#8, v.setWidth 32⟩ k = .ok .uint8 :=
  (checkParam_ok _ _ _).2 ⟨rfl, by simp [typeMax]; omega⟩

theorem checkParam_uint16 (v : BitVec 16) (k : BitVec 4) : checkParam ⟨2#8, v.setWidth 32⟩ k = .ok .uint16 :=
  (checkParam_ok _ _ _).2 ⟨rfl, by simp [typeMax]; omega⟩

theorem checkParam_uint32 (v : BitVec 32) (k : BitVec 4) : checkParam ⟨3#8, v⟩ k = .ok .uint32 :=
  (checkParam_ok _ _ _).2 ⟨rfl, by simp only [typeMax]; omega⟩

theorem vbytes_uint8 (v : BitVec 8) : vbytes .uint8 (v.setWidth 32) = [v] := by
  simp only [vbytes]; congr 1; apply BitVec.eq_of_getLsbD_eq; intro i hi
  simp only [BitVec.getLsbD_extractLsb', BitVec.getLsbD_setWidth, Nat.zero_add, hi, show i < 32 by omega, decide_true, Bool.true_and]

theorem vbytes_uint16 (v : BitVec 16) : vbytes .uint16 (v.setWidth 32) = be16 v := by
  have h : ∀ k, k ≤ 8 → (v.setWidth 32).extractLsb' k 8 = v.extractLsb' k 8 := by
    intro k hk
    apply BitVec.eq_of_getLsbD_eq; intro i hi
    simp only [BitVec.getLsbD_extractLsb', BitVec.getLsbD_setWidth, hi, show k + i < 32 by omega, decide_true, Bool.true_and]
  simp only [vbytes, be16, h 0 (by omega), h 8 (by omega)]

theorem vbytes_uint32 (v : BitVec 32) : vbytes .uint32 v = be32 v := rfl

/-! ### Slots -/

/-- A slot after a write of one. -/
theorem slot_setSlot (i : Nat) (p : Param) (s : State) (k : Nat) (h : i < 15) :
    (setSlot i p s).slot k = if k = i then p else s.slot k := by
  simp only [State.slot, setSlot]
  by_cases hk : k = i
  · subst hk; simp [List.getD, h]
  · simp [hk, List.getD, Ne.symm hk]

/-- A slot after the writes of consecutive ones. -/
theorem slots_setSlots (i : Nat) (ps : List Param) (s : State) (k : Nat) (h : i + ps.length ≤ 15) :
    (setSlots i ps s).slot k = if i ≤ k ∧ k < i + ps.length then ps.getD (k - i) ⟨0, 0⟩ else s.slot k := by
  induction ps generalizing i s with
  | nil => simp only [setSlots, List.length_nil]; rw [if_neg (by omega)]
  | cons p ps ih =>
    simp only [List.length_cons] at h
    rw [setSlots, ih (i + 1) _ (by omega), slot_setSlot _ _ _ _ (by omega)]
    simp only [List.length_cons]
    by_cases h1 : i + 1 ≤ k ∧ k < i + 1 + ps.length
    · rw [if_pos h1, if_pos (by omega), show k - i = k - (i + 1) + 1 by omega]; simp
    · rw [if_neg h1]
      by_cases h2 : k = i
      · subst h2; rw [if_pos rfl, if_pos (by omega)]; simp
      · rw [if_neg h2, if_neg (by omega)]

theorem setSlots_frame (i : Nat) (ps : List Param) (s : State) : setSlots i ps s = { s with slots := (setSlots i ps s).slots } := by
  induction ps generalizing i s with
  | nil => rfl
  | cons p ps ih => rw [setSlots, ih]; rfl

/-- The slots begin with the parameters written from slot 0 on. -/
theorem take_slots (ps : List Param) (s : State) (h : ps.length ≤ 15) : (setSlots 0 ps s).slots.toList.take ps.length = ps := by
  apply List.ext_getElem
  · simp; omega
  · intro i h1 h2
    have := slots_setSlots 0 ps s i (by omega)
    simp only [State.slot] at this
    rw [if_pos (by omega)] at this
    rw [List.getElem_take]
    simp [List.getD, h2, show i < 15 by omega] at this
    simpa using this

/-! ### The validator -/

/-- A byte outside the taxonomy is between 0x08 and 0xFE (R74). -/
theorem unknown_range (b : Byte) (h : b ∉ resultCodes) : 0x08 ≤ b.toNat ∧ b.toNat ≤ 0xFE := by
  revert b; decide

/-- Bytes that carry a code of the taxonomy are a protocol result (R107). -/
theorem carried_classify (buf : List Byte) (c : Byte) (h : carriedCode buf = some c) (hc : c ∈ resultCodes) :
    classify buf = ⟨.protocol, .none, c⟩ := by
  unfold carriedCode at h
  unfold classify
  split at h
  · cases h
  · next len rest =>
    dsimp only at h ⊢
    split at h
    · next h1 =>
      simp only [Bool.and_eq_true, decide_eq_true_eq, beq_iff_eq] at h1
      rw [if_neg (by omega), if_neg (by omega), if_neg (by simp [h1.2])]
      split at h
      · cases h; rw [if_pos (by assumption)]
      · rw [if_neg (by assumption)]
        split at h
        · cases h; rw [if_neg (by omega), if_pos hc]
        · cases h
    · cases h

/-- Bytes that begin with an intact response mean what its payload means (R72, R107). -/
theorem classify_of_response (payload buf : List Byte) (hw : (Instr.responseFrame payload).wellFormed = true)
    (hb : buf.take (payload.length + 3) = responseBytes payload) : classify buf = payloadMeaning payload := by
  simp only [Instr.wellFormed, Bool.and_eq_true, decide_eq_true_eq] at hw
  have hl : (BitVec.ofNat 8 (1 + payload.length + 2)).toNat = payload.length + 3 := by rw [toNat_len _ (by omega)]; omega
  have hlen := congrArg List.length hb
  rw [responseBytes_length, List.length_take] at hlen
  match buf with
  | [] => simp at hlen
  | len :: rest =>
    have hh : len = BitVec.ofNat 8 (1 + payload.length + 2) := by
      have := congrArg List.head? hb
      simpa [responseBytes, withCrc] using this
    have hc : crc16 (responseBytes payload) = 0 := crc16_withCrc _
    unfold classify
    dsimp only
    have hln : len.toNat = payload.length + 3 := by rw [hh, hl]
    rw [hln, if_neg (by omega), if_neg (by omega), hb, hc]
    have g2 : statusByte (responseBytes payload) = payload.getD 1 0 := by
      have : 1 < payload.length := by omega
      simp [statusByte, responseBytes, withCrc, this]
    have g4 : 4 ≤ payload.length → errorCodeByte (responseBytes payload) = payload.getD 3 0 := by
      intro h
      have : 3 < payload.length := by omega
      simp [errorCodeByte, responseBytes, withCrc, List.getElem?_append, this]
    rw [if_neg (by simp), g2]
    unfold payloadMeaning
    by_cases h0 : payload.getD 1 0 = 0
    · rw [if_pos h0, if_pos h0]
    · rw [if_neg h0, if_neg h0]
      by_cases h4 : payload.length < 4
      · rw [if_pos (by omega), if_pos h4]
      · rw [if_neg (by omega), if_neg h4, g4 (by omega)]

/-! ### Rows -/

/-- The block handles a row only while BUSY. -/
theorem handles_busy (s : State) (i : Instr) (h : handles i s = true) : s.busy = true := by
  have key : ∀ o, s.performing o = true → s.busy = true := by
    intro o h; rw [performing_iff] at h; simp [State.busy, h]
  have key2 : ∀ fc n, s.buildingFor fc n = true → s.busy = true := by
    intro fc n h; rw [buildingFor_iff] at h; simp [State.busy, h]
  have key3 : ∀ f, s.underTest.any f = true → s.busy = true := by
    intro f h
    cases hu : s.underTest with
    | none => simp [hu] at h
    | some b => rw [underTest_eq_some] at hu; rcases hu with hu | hu <;> simp [State.busy, hu]
  cases i <;> simp only [handles] at h <;> first | exact key _ h | exact key2 _ _ h | exact key3 _ h | skip
  case execute =>
    simp only [Bool.or_eq_true, Bool.and_eq_true, bne_iff_ne, beq_iff_eq] at h
    rcases h with h | h
    · exact key _ h
    · simp [State.busy, h]
  case requestFrame => simp only [producesFrame, Bool.and_eq_true] at h; exact key2 _ _ h.1.2
  case responseFrame => simp only [Bool.and_eq_true] at h; exact key3 _ h.2
  all_goals
    simp only [producesGroup, rowParams, Bool.and_eq_true] at h
    first | exact key _ h.1 | exact key _ h.1.1

/-- The ports do not change which row the block handles. -/
theorem handles_ports (s : State) (i : Instr) (hb : s.busy = true) : handles i (portSide s) = handles i s := by
  rw [portSide_busy s hb]
  cases i <;> rfl

/-- A quiet cycle's ports do nothing. -/
theorem portSide_quiet (s : State) (h : s.ports = Ports.quiet) : portSide s = s := by
  simp [portSide, hostRead, hostWrite, strayByte, h, Ports.reads, Ports.writes, Ports.quiet]
  split <;> rfl

theorem latch_quietNext (s : State) :
    (quietNext s).latch = { s with ports := Ports.quiet, rdata := none, idleDraws := s.idleDraws + 1 } := rfl

end Sys2Proof.Machine
end

