-- ==== Sys2Proof/Laws/Step.lean ====
section
/-! SUPPORT. Everything a cycle of the block can do, said once: the cases of each operation's work, of each cycle of
EXECUTE, of a cycle while BUSY, and of a step. -/

namespace Sys2Proof.Machine

/-! ### The cases of an operation's work -/

theorem encodeWork_cases (s : State) :
    (∃ e, checkParam (s.slot 0) 0 = .error e ∧ encodeWork s = raise e s) ∨
    (∃ ty, checkParam (s.slot 0) 0 = .ok ty ∧ encodeWork s = produce (encodeParam ty (s.slot 0).value) s) := by
  unfold encodeWork
  cases h : checkParam (s.slot 0) 0
  · exact .inl ⟨_, rfl, rfl⟩
  · exact .inr ⟨_, rfl, rfl⟩

theorem mergeWork_cases (s : State) :
    (∃ e, checkParam (s.slot 0) 0 = .error e ∧ mergeWork s = raise e s) ∨
    (∃ ty e, checkParam (s.slot 0) 0 = .ok ty ∧ checkParam (s.slot 1) 1 = .error e ∧ mergeWork s = raise e s) ∨
    (∃ ty1 ty2, checkParam (s.slot 0) 0 = .ok ty1 ∧ checkParam (s.slot 1) 1 = .ok ty2 ∧
      mergeWork s = produce (mergeParam (encodeParam ty1 (s.slot 0).value) ty2 (s.slot 1).value) s) := by
  unfold mergeWork
  cases h : checkParam (s.slot 0) 0
  · exact .inl ⟨_, rfl, rfl⟩
  · cases h1 : checkParam (s.slot 1) 1
    · exact .inr (.inl ⟨_, _, rfl, rfl, rfl⟩)
    · exact .inr (.inr ⟨_, _, rfl, rfl, rfl⟩)

theorem builderWork_cases (s : State) :
    (∃ e, s.builtFrame = .error e ∧ builderWork s = raise e s) ∨
    (∃ f, s.builtFrame = .ok f ∧ s.op = .execute ∧ builderWork s = startTransmit f s) ∨
    (∃ f, s.builtFrame = .ok f ∧ s.op ≠ .execute ∧ builderWork s = produce f s) := by
  unfold builderWork emitFrame
  cases h : s.builtFrame
  · exact .inl ⟨_, rfl, rfl⟩
  · by_cases ho : s.op = .execute
    · exact .inr (.inl ⟨_, rfl, ho, by simp [ho]⟩)
    · exact .inr (.inr ⟨_, rfl, ho, by simp [ho]⟩)

/-! ### The cases of EXECUTE's cycles behind COMPUTE -/

theorem frameSentCycle_cases (s : State) (h : s.seq = .frameSent) :
    (s.ports.txReady = false ∧ frameSentCycle s = s) ∨
    (s.ports.txReady = true ∧ (s.txIdx + 1).setWidth 8 = s.txLen ∧
      frameSentCycle s =
        { s with
          txIdx := s.txIdx + 1, taken := s.taken ++ [s.offered], opDraws := s.opDraws + 1
          seq := .awaitLen, timer := 0, rxN := 0 }) ∨
    (s.ports.txReady = true ∧ (s.txIdx + 1).setWidth 8 ≠ s.txLen ∧
      frameSentCycle s =
        { s with txIdx := s.txIdx + 1, taken := s.taken ++ [s.offered], opDraws := s.opDraws + 1 }) := by
  unfold frameSentCycle peerTakes State.txValid
  cases hr : s.ports.txReady
  · simp
  · by_cases hl : (s.txIdx + 1).setWidth 8 = s.txLen
    · right; left; exact ⟨rfl, hl, by simp only [h, if_true, beq_self_eq_true, Bool.and_self, drew, if_pos hl]⟩
    · right; right; exact ⟨rfl, hl, by simp only [h, if_true, beq_self_eq_true, Bool.and_self, drew, if_neg hl]⟩

theorem awaitLenCycle_cases (s : State) :
    (s.ports.rxValid = true ∧ s.ports.rxData.toNat < 5 ∧
      awaitLenCycle s = enterValidated { writeRx 0 s.ports.rxData s with rxN := 1, rxLen := s.ports.rxData }) ∨
    (s.ports.rxValid = true ∧ 5 ≤ s.ports.rxData.toNat ∧
      awaitLenCycle s =
        { writeRx 0 s.ports.rxData s with rxN := 1, rxLen := s.ports.rxData, seq := .awaitBody, timer := 0 }) ∨
    (s.ports.rxValid = false ∧ s.timer = s.window - 1 ∧
      awaitLenCycle s = conclude ⟨.responseTimeout, .noLength, 0x00⟩ { s with rxCount := 0 }) ∨
    (s.ports.rxValid = false ∧ s.timer ≠ s.window - 1 ∧ awaitLenCycle s = { s with timer := s.timer + 1 }) := by
  unfold awaitLenCycle windowEnds
  cases hv : s.ports.rxValid
  · by_cases ht : s.timer = s.window - 1
    · exact .inr (.inr (.inl ⟨rfl, ht, by rw [if_neg (by decide), if_pos (beq_iff_eq.2 ht)]⟩))
    · exact .inr (.inr (.inr ⟨rfl, ht, by rw [if_neg (by decide), if_neg (by rwa [beq_iff_eq])]⟩))
  · by_cases h5 : s.ports.rxData.toNat < 5
    · left; simp [h5]
    · right; left; refine ⟨rfl, by omega, ?_⟩; simp [h5]

theorem storeBody_cases (s : State) :
    (s.ports.rxValid = true ∧ storeBody s = { writeRx s.rxN.toNat s.ports.rxData s with rxN := s.rxN + 1 }) ∨
    (s.ports.rxValid = false ∧ storeBody s = s) := by
  unfold storeBody; cases s.ports.rxValid <;> simp

theorem awaitBodyCycle_cases (s : State) :
    ((storeBody s).rxN = (storeBody s).rxLen ∧ awaitBodyCycle s = enterValidated (storeBody s)) ∨
    ((storeBody s).rxN ≠ (storeBody s).rxLen ∧ windowEnds (storeBody s) = true ∧
      awaitBodyCycle s = enterValidated (storeBody s)) ∨
    ((storeBody s).rxN ≠ (storeBody s).rxLen ∧ windowEnds (storeBody s) = false ∧
      awaitBodyCycle s = { storeBody s with timer := (storeBody s).timer + 1 }) := by
  unfold awaitBodyCycle
  by_cases h : (storeBody s).rxN = (storeBody s).rxLen
  · exact .inl ⟨h, by simp [h]⟩
  · cases hw : windowEnds (storeBody s)
    · exact .inr (.inr ⟨h, rfl, by simp [h, hw]⟩)
    · exact .inr (.inl ⟨h, rfl, by simp [h, hw]⟩)

theorem windowEnds_iff (s : State) : windowEnds s = true ↔ s.timer = s.window - 1 := by simp [windowEnds]

theorem validatedCycle_cases (s : State) (h : s.seq = .validated) :
    (s.lat ≠ 0 ∧ validatedCycle s = waitCycle s) ∨
    (s.lat = 0 ∧ validatedCycle s = conclude (classify s.received) (drew s.rxN.toNat { s with rxCount := s.rxN })) := by
  unfold validatedCycle concludeTest
  by_cases hl : s.lat = 0 <;> simp [hl, h]

/-! ### A cycle while BUSY -/

/-- Everything a cycle while BUSY can do, from the state `u` after the ports' part of it: a cycle that passes, an
operation's work, a cycle of EXECUTE behind COMPUTE, or, in states no run reaches, nothing (R117). -/
inductive BusyCycle (u : State) : State → Prop where
  | wait (hs : u.seq = .compute) (hl : u.lat ≠ 0) : BusyCycle u (waitCycle u)
  | nop (hp : u.performing .nop = true) : BusyCycle u (completeNone u)
  | encode (hp : u.performing .encode = true) : BusyCycle u (encodeWork u)
  | merge (hp : u.performing .merge = true) : BusyCycle u (mergeWork u)
  | build (hp : u.performing .build = true) : BusyCycle u (builderWork u)
  | checksum (hp : u.performing .checksum = true) : BusyCycle u (checksumWork u)
  | verify (hp : u.performing .verify = true) : BusyCycle u (verifyWork u)
  | classify (hp : u.performing .classify = true) : BusyCycle u (classifyWork u)
  | execute (hp : u.performing .execute = true) : BusyCycle u (builderWork u)
  | frameSent (hs : u.seq = .frameSent) (ho : u.op = .execute) : BusyCycle u (frameSentCycle u)
  | awaitLen (hs : u.seq = .awaitLen) (ho : u.op = .execute) : BusyCycle u (awaitLenCycle u)
  | awaitBody (hs : u.seq = .awaitBody) (ho : u.op = .execute) : BusyCycle u (awaitBodyCycle u)
  | validated (hs : u.seq = .validated) (ho : u.op = .execute) : BusyCycle u (validatedCycle u)
  | unreachable (hs : u.seq ≠ .idle ∧ u.seq ≠ .compute) (ho : u.op ≠ .execute) : BusyCycle u u

theorem exec_busy (u t : State) (hb : u.busy = true) (h : exec u.op.instr u = .next t) : BusyCycle u t := by
  rw [busy_iff] at hb
  have hp : ∀ o, u.seq = .compute → u.op = o → u.lat = 0 → u.performing o = true :=
    fun o h1 h2 h3 => (performing_iff u o).2 ⟨h1, h2, h3⟩
  cases hs : u.seq
  · exact absurd hs hb
  · by_cases hl : u.lat = 0
    · cases ho : u.op <;>
        simp [ho, Op.instr, exec, execNop, execEncode, execMerge, execBuild, execChecksum, execVerify, execClassify,
          execExecute, executeCycle, localCycle, hs, hl] at h <;>
        subst h
      · exact .nop (hp _ hs ho hl)
      · exact .encode (hp _ hs ho hl)
      · exact .merge (hp _ hs ho hl)
      · exact .build (hp _ hs ho hl)
      · exact .checksum (hp _ hs ho hl)
      · exact .verify (hp _ hs ho hl)
      · exact .classify (hp _ hs ho hl)
      · exact .execute (hp _ hs ho hl)
    · rw [exec_instr_wait u hs hl] at h; cases h; exact .wait hs hl
  all_goals
    cases ho : u.op <;>
      simp [ho, Op.instr, exec, execNop, execEncode, execMerge, execBuild, execChecksum, execVerify, execClassify,
        execExecute, executeCycle, localCycle, hs] at h <;>
      subst h
    all_goals
      first
      | exact .unreachable (by simp [hs]) (by simp [ho])
      | exact .frameSent hs ho
      | exact .awaitLen hs ho
      | exact .awaitBody hs ho
      | exact .validated hs ho

/-! ### What an operation does not look at -/

/-- The state with other bus inputs, another word read, another count of host draws and another STRAY_RX. -/
def onBus (p : Ports) (r : Option Word) (n : Nat) (x : Bool) (s : State) : State :=
  { s with ports := p, rdata := r, hostDraws := n, strayRx := x }

section
variable (p : Ports) (r : Option Word) (n : Nat) (x : Bool) (s : State)

theorem encodeWork_onBus : encodeWork (onBus p r n x s) = onBus p r n x (encodeWork s) := by
  unfold encodeWork
  rw [show (onBus p r n x s).slot 0 = s.slot 0 from rfl]
  cases checkParam (s.slot 0) 0 <;> rfl

theorem mergeWork_onBus : mergeWork (onBus p r n x s) = onBus p r n x (mergeWork s) := by
  unfold mergeWork
  rw [show (onBus p r n x s).slot 0 = s.slot 0 from rfl, show (onBus p r n x s).slot 1 = s.slot 1 from rfl]
  cases checkParam (s.slot 0) 0
  · rfl
  · cases checkParam (s.slot 1) 1 <;> rfl

theorem builderWork_onBus : builderWork (onBus p r n x s) = onBus p r n x (builderWork s) := by
  unfold builderWork emitFrame
  rw [show (onBus p r n x s).builtFrame = s.builtFrame from rfl, show (onBus p r n x s).op = s.op from rfl]
  cases s.builtFrame
  · rfl
  · by_cases h : s.op = .execute
    · simp only [if_pos h]; rfl
    · simp only [if_neg h]; rfl

theorem validatedCycle_onBus : validatedCycle (onBus p r n x s) = onBus p r n x (validatedCycle s) := by
  unfold validatedCycle concludeTest
  rw [show (onBus p r n x s).lat = s.lat from rfl, show (onBus p r n x s).seq = s.seq from rfl]
  by_cases h : s.lat = 0
  · by_cases h' : s.seq = .validated
    · simp only [if_pos h, if_pos h']; rfl
    · simp only [if_pos h, if_neg h']; rfl
  · simp only [if_neg h]; rfl

theorem localCycle_onBus (o : Op) (act : State → State) (hi : s.seq ≠ .idle)
    (h : act (onBus p r n x s) = onBus p r n x (act s)) :
    localCycle o act (onBus p r n x s) = onBus p r n x (localCycle o act s) := by
  unfold localCycle
  rw [show (onBus p r n x s).lat = s.lat from rfl, show (onBus p r n x s).seq = s.seq from rfl,
    show (onBus p r n x s).op = s.op from rfl, h]
  cases hs : s.seq <;> try rfl
  · exact absurd hs hi
  · by_cases ho : s.op = o
    · by_cases hl : s.lat = 0
      · simp only [if_pos ho, if_pos hl]
      · simp only [if_pos ho, if_neg hl]; rfl
    · simp only [if_neg ho]

variable {p s} (h1 : p.txReady = s.ports.txReady) (h2 : p.rxValid = s.ports.rxValid) (h3 : p.rxData = s.ports.rxData)

include h1 in
theorem frameSentCycle_onBus : frameSentCycle (onBus p r n x s) = onBus p r n x (frameSentCycle s) := by
  unfold frameSentCycle peerTakes State.txValid
  simp only [show (onBus p r n x s).ports.txReady = s.ports.txReady from h1,
    show (onBus p r n x s).seq = s.seq from rfl, show (onBus p r n x s).txIdx = s.txIdx from rfl,
    show (onBus p r n x s).txLen = s.txLen from rfl]
  cases s.ports.txReady
  · rfl
  · cases s.seq == .frameSent <;>
      (by_cases hl : (s.txIdx + 1).setWidth 8 = s.txLen
       · simp only [if_pos hl]; rfl
       · simp only [if_neg hl]; rfl)

include h2 h3 in
theorem awaitLenCycle_onBus : awaitLenCycle (onBus p r n x s) = onBus p r n x (awaitLenCycle s) := by
  unfold awaitLenCycle
  simp only [show (onBus p r n x s).ports.rxValid = s.ports.rxValid from h2,
    show (onBus p r n x s).ports.rxData = s.ports.rxData from h3,
    show windowEnds (onBus p r n x s) = windowEnds s from rfl]
  cases s.ports.rxValid
  · cases windowEnds s <;> rfl
  · by_cases h5 : s.ports.rxData.toNat < 5
    · simp only [if_pos h5]; rfl
    · simp only [if_neg h5]; rfl

include h2 h3 in
theorem storeBody_onBus : storeBody (onBus p r n x s) = onBus p r n x (storeBody s) := by
  unfold storeBody
  simp only [show (onBus p r n x s).ports.rxValid = s.ports.rxValid from h2,
    show (onBus p r n x s).ports.rxData = s.ports.rxData from h3]
  cases s.ports.rxValid <;> rfl

include h2 h3 in
theorem awaitBodyCycle_onBus : awaitBodyCycle (onBus p r n x s) = onBus p r n x (awaitBodyCycle s) := by
  unfold awaitBodyCycle
  rw [storeBody_onBus r n x h2 h3]
  simp only [show ∀ u, (onBus p r n x u).rxN = u.rxN from fun _ => rfl,
    show ∀ u, (onBus p r n x u).rxLen = u.rxLen from fun _ => rfl,
    show ∀ u, windowEnds (onBus p r n x u) = windowEnds u from fun _ => rfl]
  by_cases hn : (storeBody s).rxN = (storeBody s).rxLen
  · simp only [if_pos hn]; rfl
  · simp only [if_neg hn]; cases windowEnds (storeBody s) <;> rfl

include h1 h2 h3 in
/-- While BUSY the operation in progress looks at no bus input, at no word read, at no count of host draws and not at
STRAY_RX, and hands them on. -/
theorem exec_onBus (o : Op) (hi : s.seq ≠ .idle) :
    ∃ t, exec o.instr s = .next t ∧ exec o.instr (onBus p r n x s) = .next (onBus p r n x t) := by
  cases o <;>
    refine ⟨_, rfl, ?_⟩ <;>
    simp only [Op.instr, exec, execNop, execEncode, execMerge, execBuild, execChecksum, execVerify, execClassify,
      execExecute]
  · exact congrArg _ (localCycle_onBus _ _ _ _ _ _ _ hi rfl)
  · rw [localCycle_onBus _ _ _ _ _ _ _ hi (encodeWork_onBus ..)]
  · rw [localCycle_onBus _ _ _ _ _ _ _ hi (mergeWork_onBus ..)]
  · rw [localCycle_onBus _ _ _ _ _ _ _ hi (builderWork_onBus ..)]
  · exact congrArg _ (localCycle_onBus _ _ _ _ _ _ _ hi rfl)
  · exact congrArg _ (localCycle_onBus _ _ _ _ _ _ _ hi rfl)
  · exact congrArg _ (localCycle_onBus _ _ _ _ _ _ _ hi rfl)
  · unfold executeCycle
    rw [show (onBus p r n x s).seq = s.seq from rfl, show (onBus p r n x s).op = s.op from rfl]
    cases hs : s.seq
    · exact absurd hs hi
    · simp only; rw [localCycle_onBus _ _ _ _ _ _ _ hi (builderWork_onBus ..)]
    all_goals
      by_cases ho : s.op = .execute
      · simp only [if_pos ho]
        first
        | rw [frameSentCycle_onBus r n x h1]
        | rw [awaitLenCycle_onBus r n x h2 h3]
        | rw [awaitBodyCycle_onBus r n x h2 h3]
        | rw [validatedCycle_onBus]
      · simp only [if_neg ho]
end

/-! ### A step -/

/-- Everything a step without reset can do. -/
theorem step_no_reset (s t : State) (hr : s.latch.ports.rst = false) (h : step s = .next t) :
    (s.busy = true ∧ BusyCycle (portSide s.latch) t) ∨
    (s.busy = false ∧ s.latch.ports.writesCmd = true ∧
      t = accept (Op.ofCode (s.latch.ports.busWdata.extractLsb' 0 3)) (portSide s.latch)) ∨
    (s.busy = false ∧ s.latch.ports.writesCmd = false ∧ t = portSide s.latch) := by
  rcases step_cases s t h with ⟨h1, _⟩ | ⟨_, hb, he⟩ | ⟨_, hb, h2, rfl⟩ | ⟨_, hb, h2, rfl⟩
  · simp [hr] at h1
  · rw [show s.op = (portSide s.latch).op by simp] at he
    exact .inl ⟨hb, exec_busy _ _ (by simpa [State.busy] using hb) he⟩
  · exact .inr (.inl ⟨hb, h2, rfl⟩)
  · exact .inr (.inr ⟨hb, h2, rfl⟩)

end Sys2Proof.Machine
end

