-- ==== Sys2Proof/Tests/Slice0.lean ====
section
/-! SUPPORT. Tests. Expected values come from the spec's tables and from 95_test_vectors.md; the witnesses show that every
statement's hypotheses can be met, clause by clause. -/

namespace Sys2Proof.Tests

-- one theorem after the other, or the kernel evaluations wait for each other in threads of their own
set_option Elab.async false

open Machine

/-! ### WellFormed -/

/-- R78: the six words of consumer calls are not CMDWORD's. -/
theorem test_wf_cmdword :
    (Instr.cmdword 0x010 1).wellFormed = false ∧ (Instr.cmdword 0x051 1).wellFormed = false ∧
    (Instr.cmdword 0x010 2).wellFormed = true ∧ (Instr.cmdword 0x012 1).wellFormed = true := by decide

/-- R69: at most 15 parameters. -/
theorem test_wf_request_count :
    (Instr.requestFrame 0x010 (List.replicate 16 ⟨1, 0⟩)).wellFormed = false ∧
    (Instr.requestFrame 0x010 (List.replicate 15 ⟨1, 0⟩)).wellFormed = true := by decide

/-- R64: BLOB, BINARY and UNDEFINED have no encoding. -/
theorem test_wf_request_tag :
    (Instr.requestFrame 0x010 [⟨0x07, 0⟩]).wellFormed = false ∧ (Instr.requestFrame 0x010 [⟨0x80, 0⟩]).wellFormed = false ∧
    (Instr.requestFrame 0x010 [⟨0x00, 0⟩]).wellFormed = false := by decide

/-- R81: a value above its type's maximum. -/
theorem test_wf_request_range :
    (Instr.requestFrame 0x010 [⟨1, 0x100⟩]).wellFormed = false ∧
    (Instr.requestFrame 0x010 [⟨2, 0x10000⟩]).wellFormed = false ∧
    (Instr.requestFrame 0x010 [⟨1, 0xFF⟩, ⟨2, 0xFFFF⟩, ⟨3, 0xFFFFFFFF⟩]).wellFormed = true := by decide

/-- R73, R71: 5 to 255 bytes, so 2 to 252 bytes of payload. -/
theorem test_wf_response :
    (Instr.responseFrame [0]).wellFormed = false ∧ (Instr.responseFrame (List.replicate 253 0)).wellFormed = false ∧
    (Instr.responseFrame [0, 0]).wellFormed = true ∧
    (Instr.responseFrame (List.replicate 252 0)).wellFormed = true := by decide +kernel

/-! ### Decoding, from words written out from the spec's tables -/

/-- R76: bits [2:0] alone. -/
theorem test_decode_operations :
    decode (.cmd 0) = .ok .nop ∧ decode (.cmd 1) = .ok .encode ∧ decode (.cmd 2) = .ok .merge ∧
    decode (.cmd 3) = .ok .build ∧ decode (.cmd 4) = .ok .checksum ∧ decode (.cmd 5) = .ok .verify ∧
    decode (.cmd 6) = .ok .classify ∧ decode (.cmd 7) = .ok .execute ∧ decode (.cmd 0xFFFFFFF8) = .ok .nop := by decide

/-- R66 and S1. -/
theorem test_decode_lone :
    decode (.group [0x10, 0x7F]) = .ok (.paramUint8 0x7F) ∧
    decode (.group [0x20, 0x12, 0x34]) = .ok (.paramUint16 0x1234) ∧
    decode (.group [0x30, 0x12, 0x34, 0x56, 0x78]) = .ok (.paramUint32 0x12345678) := by decide

/-- R67 and table 2.2. -/
theorem test_decode_pairs :
    decode (.group [0x11, 0xAB, 0xCD]) = .ok (.pairUint8Uint8 0xAB 0xCD) ∧
    decode (.group [0x12, 0xAB, 0xBE, 0xEF]) = .ok (.pairUint8Uint16 0xAB 0xBEEF) ∧
    decode (.group [0x13, 0xAB, 0xDE, 0xAD, 0xBE, 0xEF]) = .ok (.pairUint8Uint32 0xAB 0xDEADBEEF) ∧
    decode (.group [0x21, 0xBE, 0xEF, 0xAB]) = .ok (.pairUint16Uint8 0xBEEF 0xAB) ∧
    decode (.group [0x22, 0xBE, 0xEF, 0x12, 0x34]) = .ok (.pairUint16Uint16 0xBEEF 0x1234) ∧
    decode (.group [0x23, 0xBE, 0xEF, 0xDE, 0xAD, 0xBE, 0xEF]) = .ok (.pairUint16Uint32 0xBEEF 0xDEADBEEF) ∧
    decode (.group [0x31, 0xDE, 0xAD, 0xBE, 0xEF, 0xAB]) = .ok (.pairUint32Uint8 0xDEADBEEF 0xAB) ∧
    decode (.group [0x32, 0xDE, 0xAD, 0xBE, 0xEF, 0x12, 0x34]) = .ok (.pairUint32Uint16 0xDEADBEEF 0x1234) ∧
    decode (.group [0x33, 0xDE, 0xAD, 0xBE, 0xEF, 0xCA, 0xFE, 0xBA, 0xBE]) =
      .ok (.pairUint32Uint32 0xDEADBEEF 0xCAFEBABE) := by decide

/-- R69, R78: cw = (function_code << 4) | parameter_count. -/
theorem test_decode_command_words :
    decode (.commandWord 0x0000) = .ok (.cmdword 0x000 0) ∧ decode (.commandWord 0x1233) = .ok (.cmdword 0x123 3) ∧
    decode (.commandWord 0x0102) = .ok (.cmdword 0x010 2) ∧ decode (.commandWord 0x0101) = .ok .fc010 ∧
    decode (.commandWord 0x0111) = .ok .fc011 ∧ decode (.commandWord 0x0211) = .ok .fc021 ∧
    decode (.commandWord 0x0311) = .ok .fc031 ∧ decode (.commandWord 0x0411) = .ok .fc041 ∧
    decode (.commandWord 0x0511) = .ok .fc051 := by decide

/-- R74. -/
theorem test_decode_result_codes :
    decode (.resultCode 0x00) = .ok .noError ∧ decode (.resultCode 0x01) = .ok .crcError ∧
    decode (.resultCode 0x02) = .ok .methodError ∧ decode (.resultCode 0x03) = .ok .parametersError ∧
    decode (.resultCode 0x04) = .ok .tooEarlyError ∧ decode (.resultCode 0x05) = .ok .timeoutError ∧
    decode (.resultCode 0x06) = .ok .undefinedError ∧ decode (.resultCode 0x07) = .ok .redefinedError ∧
    decode (.resultCode 0xFF) = .ok .genericError := by decide

/-- Table 2.3: a pair and a lone parameter behind the command word. -/
theorem test_decode_request :
    decode (.request [0x0E, 0x12, 0x33, 0x12, 0x05, 0x12, 0x34, 0x30, 0xCA, 0xFE, 0xBA, 0xBE, 0x9A, 0x2E]) =
      .ok (.requestFrame 0x123 [⟨1, 0x05⟩, ⟨2, 0x1234⟩, ⟨3, 0xCAFEBABE⟩]) := by decide +kernel

/-- Table 2.7. -/
theorem test_decode_response :
    decode (.response [0x08, 0x12, 0x00, 0x34, 0x56, 0x78, 0xC1, 0xB9]) =
      .ok (.responseFrame [0x12, 0x00, 0x34, 0x56, 0x78]) := by decide +kernel

/-- What is no instruction is rejected, and says why (R64, R66-R68, R71, R73, R74). -/
theorem test_decode_rejects :
    decode (.group []) = .error .emptyInput ∧ decode (.group [0x40, 0]) = .error .unknownHeader ∧
    decode (.group [0x14, 0, 0]) = .error .unknownHeader ∧ decode (.group [0x01, 0, 0]) = .error .unknownHeader ∧
    decode (.group [0x20, 0x12]) = .error .truncatedGroup ∧ decode (.group [0x10, 1, 2]) = .error .trailingBytes ∧
    decode (.resultCode 0x08) = .error .unknownResultCode ∧ decode (.resultCode 0xFE) = .error .unknownResultCode ∧
    decode (.response [0x04, 0, 0, 0]) = .error .lengthTooSmall ∧
    decode (.response [0x07, 0, 0x11, 0x10, 1, 0xCC]) = .error .lengthMismatch := by decide

/-- A residual that is not 0 (S9d), and a lone group where the count asks for a pair (R68). -/
theorem test_decode_rejects_frames :
    decode (.response [0x05, 0, 0, 0xA1, 0xB4]) = .error .crcMismatch ∧
    decode (.request (withCrc [0x07, 0x01, 0x02, 0x10, 0x01])) = .error .groupShape ∧
    decode (.request (withCrc [0x07, 0x01, 0x00, 0x10, 0x01])) = .error .trailingBytes := by decide +kernel

/-- The table's numbering: the first byte is bits [7:0] (table 2.7, S7). -/
theorem test_table_words :
    decodeTableWord 32 0x00000006 = some .classify ∧ decodeTableWord 16 0x0411 = some .fc041 ∧
    decodeTableWord 8 0x31 = some (.pairUint32Uint8 0 0) ∧ decodeTableWord 8 0x07 = some .redefinedError ∧
    decodeTableWord 8 0x44 = none ∧
    decodeTableWord 48 0x7B8DBB00AA06 = some (.responseFrame [0xAA, 0x00, 0xBB]) ∧
    decodeTableWord 56 0xA3B50110010107 = some (.requestFrame 0x010 [⟨1, 1⟩]) := by decide +kernel

/-! ### The CRC (table 2.5) -/

theorem test_crc_table :
    crcUpdate 0 0x01 = 0xD175 ∧ crcUpdate 0 0x4C = 0x007F ∧ crcUpdate 0 0x80 = 0x21E5 ∧ crcUpdate 0 0xFF = 0xC146 := by
  decide +kernel

theorem test_crc_sequences :
    crc16 [0x31, 0x32, 0x33, 0x34, 0x35, 0x36, 0x37, 0x38, 0x39] = 0x8497 ∧ crc16 [0x05, 0, 0] = 0xA1B5 ∧
    crc16 [0x87, 0x01, 0x01, 0x10, 0x01, 0xB5, 0xA3] = 0x1C27 := by decide +kernel

/-! ### Steps -/

/-- The next state of an outcome, where there is one. -/
def nextOf (o : Host.Outcome State Fault Refusal) : State :=
  match o with
  | .next t => t
  | .fault _ | .refused _ => State.reset

/-- Operation `o` is at its own cycle of COMPUTE, from reset. -/
def work (o : Op) : State := atWork o State.reset

/-- The request of S7: FUNC = 0x010, PCOUNT = 1, slot 0 = (UINT8, 0x01), with TIMEOUT = 4. -/
def request7 : State := { withRequest 0x010 [⟨1, 1⟩] State.reset with timeout := 4 }

/-- S7's frame. -/
def frame7 : List Byte := [0x07, 0x01, 0x01, 0x10, 0x01, 0xB5, 0xA3]

/-- EXECUTE of S7 in FRAME_SENT, AWAIT_LEN, AWAIT_BODY (one byte missing) and VALIDATED, as in trace T1. -/
def sent : State := startTransmit frame7 (atWork .execute request7)

def awaitingLength : State := { sent with seq := .awaitLen, txIdx := 7, timer := 0, rxN := 0 }

def awaitingBody : State :=
  { sent with
    seq := .awaitBody, txIdx := 7, timer := 3, rxN := 4, rxLen := 5
    rxbuf := [(0, 0x05), (1, 0x00), (2, 0x00), (3, 0xA1)] }

def validated : State :=
  { sent with
    seq := .validated, txIdx := 7, timer := 3, rxN := 5, rxLen := 5, lat := 0
    rxbuf := [(0, 0x05), (1, 0x00), (2, 0x00), (3, 0xA1), (4, 0xB5)] }

/-- RXBUF and RX_COUNT hold these bytes, and operation `o` is at its own cycle. -/
def loaded (bs : List Byte) (o : Op) : State := atWork o (withResponse bs State.reset)

/-- A state whose next cycle has these port inputs. -/
def during (p : Ports) (s : State) : State := { s with inputs := [p] }

/-- Table 2.1. -/
theorem test_encode :
    (nextOf (exec .encode (setSlot 0 ⟨2, 0x1234⟩ (work .encode)))).txbuf = [(0, 0x20), (1, 0x12), (2, 0x34)] ∧
    (nextOf (exec .encode (setSlot 0 ⟨2, 0x1234⟩ (work .encode)))).txLen = 3 ∧
    (nextOf (exec .encode (setSlot 0 ⟨2, 0x1234⟩ (work .encode)))).statusWord = 0x00000002 := by decide

theorem test_encode_rejects :
    (nextOf (exec .encode (setSlot 0 ⟨1, 0x100⟩ (work .encode)))).statusWord = 0x00003502 ∧
    (nextOf (exec .encode (setSlot 0 ⟨0x80, 1⟩ (work .encode)))).statusWord = 0x00002502 := by decide

/-- Table 2.2. -/
theorem test_merge :
    (nextOf (exec .merge (setSlots 0 [⟨1, 0x05⟩, ⟨2, 0x1234⟩] (work .merge)))).txbuf =
      [(0, 0x12), (1, 0x05), (2, 0x12), (3, 0x34)] ∧
    (nextOf (exec .merge (setSlots 0 [⟨1, 0x05⟩, ⟨2, 0x1234⟩] (work .merge)))).txLen = 4 := by decide

theorem test_merge_rejects :
    (nextOf (exec .merge (setSlots 0 [⟨1, 0x100⟩, ⟨7, 0⟩] (work .merge)))).statusWord = 0x00003502 ∧
    (nextOf (exec .merge (setSlots 0 [⟨1, 1⟩, ⟨2, 0x10000⟩] (work .merge)))).statusWord = 0x00103502 := by decide

/-- S7. -/
theorem test_build :
    Memory.snapshot (nextOf (exec .build (atWork .build request7))).txbuf 7 0 = frame7 ∧
    (nextOf (exec .build (atWork .build request7))).txLen = 7 ∧
    (nextOf (exec .build (atWork .build request7))).statusWord = 0x00000002 := by decide +kernel

/-- Table 2.3's precondition cases. -/
theorem test_build_rejects :
    (nextOf (exec .build { work .build with pcount := 16 })).statusWord = 0x00001502 ∧
    (nextOf (exec .build { setSlots 0 [⟨1, 1⟩, ⟨1, 0x100⟩, ⟨0, 0⟩] (work .build) with pcount := 3 })).statusWord =
      0x00103502 := by decide +kernel

/-- Table 2.6. -/
theorem test_checksum :
    (nextOf (exec .checksum (loaded [0x07, 0x01, 0x01, 0x10, 0x01] .checksum))).crcResult = 0xB5A3 ∧
    (nextOf (exec .checksum (loaded [] .checksum))).crcResult = 0x0000 := by decide +kernel

theorem test_verify :
    (nextOf (exec .verify (loaded [0x07, 0x01, 0x01, 0x10, 0x01, 0xB5, 0xA3] .verify))).statusWord = 0x0000000A ∧
    (nextOf (exec .verify (loaded [0x07, 0x01, 0x01, 0x10, 0x01, 0xB5, 0xA2] .verify))).statusWord = 0x00000002 := by
  decide +kernel

/-- Table 2.7. -/
theorem test_classify :
    (nextOf (exec .classify (loaded [0x07, 0x00, 0x11, 0x10, 0x01, 0xCC, 0x08] .classify))).statusWord = 0x01000102 ∧
    (nextOf (exec .classify (loaded [] .classify))).statusWord = 0x00010202 ∧
    (nextOf (exec .classify (loaded [0x07, 0x00, 0x01, 0x00, 0x08, 0x1D, 0xB6] .classify))).statusWord = 0x08000402 ∧
    (nextOf (exec .classify (loaded [0x05, 0x00, 0x01, 0x70, 0xC0] .classify))).statusWord = 0x00050302 := by
  decide +kernel

theorem test_classify_corners :
    (nextOf (exec .classify (loaded [0x07, 0x00, 0x01, 0x00, 0x00, 0x02, 0xBF] .classify))).statusWord = 0x00000102 ∧
    (nextOf (exec .classify (loaded [0x05, 0x00, 0x00, 0xA1, 0xB5, 0xEE, 0xEE] .classify))).statusWord = 0x00000102 ∧
    (nextOf (exec .classify (loaded [0x00, 0x00, 0x00, 0x00, 0x00] .classify))).statusWord = 0x00020302 ∧
    (nextOf (exec .classify (loaded [0x05, 0x00, 0x00, 0xA1] .classify))).statusWord = 0x00030302 := by decide +kernel

theorem test_nop : (nextOf (exec .nop (work .nop))).statusWord = 0x00000002 := by decide

/-- Trace T1, cycles 1, 8, 9, 13 and 14, and trace T2, cycle 11. -/
theorem test_execute :
    (nextOf (exec .execute (atWork .execute request7))).seq = .frameSent ∧
    (nextOf (exec .execute { sent with txIdx := 6, ports := Ports.takes })).seq = .awaitLen ∧
    (nextOf (exec .execute { awaitingLength with ports := Ports.sends 0x05 })).seq = .awaitBody ∧
    (nextOf (exec .execute { awaitingBody with ports := Ports.sends 0xB5 })).seq = .validated ∧
    (nextOf (exec .execute validated)).statusWord = 0x00000102 ∧
    (nextOf (exec .execute validated)).rxCount = 5 := by decide +kernel

theorem test_execute_expiry :
    (nextOf (exec .execute { awaitingLength with timer := 3 })).statusWord = 0x00010202 ∧
    (nextOf (exec .execute { awaitingBody with timer := 3 })).seq = .validated ∧
    (nextOf (exec .execute { awaitingLength with ports := Ports.sends 0x03 })).seq = .validated := by decide +kernel

/-- Each row the packer, the builder or the validator handles gives what the operation gives (tables 2.2, 2.4, 2.7). -/
theorem test_rows :
    (nextOf (exec (.pairUint32Uint8 0xDEADBEEF 0xAB) (setSlots 0 [⟨3, 0xDEADBEEF⟩, ⟨1, 0xAB⟩] (work .merge)))).txbuf =
      [(0, 0x31), (1, 0xDE), (2, 0xAD), (3, 0xBE), (4, 0xEF), (5, 0xAB)] ∧
    Memory.snapshot (nextOf (exec .fc051 (atWork .build (withRequest 0x051 [⟨1, 1⟩] State.reset)))).txbuf 7 0 =
      [0x07, 0x05, 0x11, 0x10, 0x01, 0xF5, 0xBC] ∧
    (nextOf (exec .parametersError (loaded [0x07, 0x00, 0x11, 0x10, 0x03, 0xBF, 0x97] .classify))).statusWord =
      0x03000102 := by decide +kernel

/-- The same in other rows, and a row whose cycle it is not. -/
theorem test_rows_more :
    (nextOf (exec (.paramUint16 0x1234) (setSlot 0 ⟨2, 0x1234⟩ (work .encode)))).txLen = 3 ∧
    (nextOf (exec (.requestFrame 0x010 [⟨1, 1⟩]) (atWork .build request7))).txLen = 7 ∧
    (nextOf (exec (.responseFrame [0xAA, 0x00, 0xBB]) (loaded [0x06, 0xAA, 0x00, 0xBB, 0x8D, 0x7B] .classify))).statusWord =
      0x00000102 ∧
    (nextOf (exec (.paramUint16 0x1235) (setSlot 0 ⟨2, 0x1234⟩ (work .encode)))).statusWord = 0x00000021 := by
  decide +kernel

/-- R25, R45, R42, R43: a stray byte, an acceptance, a rejected CMD write and a dropped write. -/
theorem test_ports :
    (nextOf (step (during (Ports.sends 0x55) State.reset))).statusWord = 0x00000010 ∧
    (nextOf (step (during (Ports.wr .cmd 7) State.reset))).statusWord = 0x00000021 ∧
    (nextOf (step (during (Ports.wr .cmd 0) sent))).statusWord = 0x00000045 ∧
    (nextOf (step (during (Ports.wr .pcount 3) sent))).pcount = 1 := by decide +kernel

/-- R18, R25, P4: what reads return. -/
theorem test_reads :
    (nextOf (step (during (Ports.rd .status) sent))).rdata = some 0x00000041 ∧
    (nextOf (step (during (Ports.rd .pcount) sent))).rdata = some 0x00000001 ∧
    (nextOf (step (during (Ports.rd .reserved) sent))).rdata = some 0x00000000 := by decide +kernel

/-! ### Witnesses of the statements' hypotheses -/

theorem test_witness_DecodeInvertsEncode :
    (Instr.requestFrame 0xFFF (List.replicate 15 ⟨3, 0xFFFFFFFF⟩)).wellFormed = true ∧
    (Instr.responseFrame (List.replicate 252 0)).wellFormed = true ∧ (Instr.cmdword 0xFFF 15).wellFormed = true := by
  decide +kernel

theorem test_witness_EncodeInvertsDecode :
    decode (.cmd 0xFFFFFFFF) = .ok .execute ∧ decode (.group [0x10, 0x01]) = .ok (.paramUint8 0x01) := by decide

theorem test_witness_PairFormat : (Param.mk 1 0xFF).valid = true ∧ (Param.mk 3 0xFFFFFFFF).valid = true := by decide

theorem test_witness_ParameterChecks :
    (Param.mk 0x04 0).tag ∉ [0x01#8, 0x02#8, 0x03#8] ∧ (Param.mk 0x01 0).tag ∈ [0x01#8, 0x02#8, 0x03#8] ∧
    typeMax .uint8 < (Param.mk 0x01 0x100).value.toNat ∧ (Param.mk 0x01 0xFF).value.toNat ≤ typeMax .uint8 := by decide

theorem test_witness_EncodeOperation :
    (work .encode).performing .encode = true ∧
    paramError ((setSlot 0 ⟨1, 0x100⟩ (work .encode)).slot 0) = some .valueRange ∧
    paramError ((setSlot 0 ⟨1, 0xFF⟩ (work .encode)).slot 0) = none ∧
    typeOfTag ((setSlot 0 ⟨1, 0xFF⟩ (work .encode)).slot 0).tag = some .uint8 := by decide

theorem test_witness_MergeOperation :
    (work .merge).performing .merge = true ∧
    paramError ((setSlots 0 [⟨0, 0⟩, ⟨0, 0⟩] (work .merge)).slot 0) = some .unsupportedType ∧
    paramError ((setSlots 0 [⟨1, 1⟩, ⟨7, 0⟩] (work .merge)).slot 0) = none ∧
    paramError ((setSlots 0 [⟨1, 1⟩, ⟨7, 0⟩] (work .merge)).slot 1) = some .unsupportedType ∧
    paramError ((setSlots 0 [⟨1, 1⟩, ⟨2, 0xFFFF⟩] (work .merge)).slot 1) = none ∧
    typeOfTag ((setSlots 0 [⟨1, 1⟩, ⟨2, 0xFFFF⟩] (work .merge)).slot 1).tag = some .uint16 := by decide

theorem test_witness_LoneParameterRows :
    (work .encode).performing .encode = true ∧
    (setSlot 0 ⟨1, 0xFF⟩ (work .encode)).slot 0 = ⟨0x01, (0xFF#8).setWidth 32⟩ ∧
    (setSlot 0 ⟨2, 0xFFFF⟩ (work .encode)).slot 0 = ⟨0x02, (0xFFFF#16).setWidth 32⟩ ∧
    (setSlot 0 ⟨3, 0xFFFFFFFF⟩ (work .encode)).slot 0 = ⟨0x03, 0xFFFFFFFF⟩ := by decide

/-- One state for each pair of types. -/
theorem test_witness_PairRows :
    (work .merge).performing .merge = true ∧
    ∀ p ∈ [Param.mk 1 0xFF, Param.mk 2 0xFFFF, Param.mk 3 0xFFFFFFFF],
      ∀ q ∈ [Param.mk 1 0x00, Param.mk 2 0xFFFF, Param.mk 3 0xFFFFFFFF],
        (setSlots 0 [p, q] (work .merge)).slot 0 = p ∧ (setSlots 0 [p, q] (work .merge)).slot 1 = q := by decide

theorem test_witness_SingleBitFlipIsDetected : crc16 frame7 = 0x0000#16 ∧ 6 < frame7.length ∧ 7 < 8 := by decide +kernel

theorem test_witness_ChecksumOperation :
    (loaded [0x05, 0, 0] .checksum).performing .checksum = true ∧
    ([0x05, 0, 0] : List Byte).length = (loaded [0x05, 0, 0] .checksum).rxCount.toNat ∧
    holdsBytes (loaded [0x05, 0, 0] .checksum).rxbuf [0x05, 0, 0] = true := by decide

theorem test_witness_VerifyOperation :
    (loaded [0x05, 0, 0] .verify).performing .verify = true ∧
    ([0x05, 0, 0] : List Byte).length = (loaded [0x05, 0, 0] .verify).rxCount.toNat ∧
    holdsBytes (loaded [0x05, 0, 0] .verify).rxbuf [0x05, 0, 0] = true := by decide

/-- Table 2.3's shortest frame, and its length at 15 UINT32 parameters. -/
theorem test_witness_FrameLength :
    build 0x000 0 State.reset.slots.toList = .ok [0x05, 0x00, 0x00, 0xA1, 0xB5] ∧
    classify [0x05, 0x00, 0x00, 0xA1, 0xB5] = ⟨.protocol, .none, 0x00⟩ ∧
    (∀ p ∈ (Vector.replicate 15 (Param.mk 0x03 0xFFFFFFFF)).toList, p.tag = 0x03) ∧
    ((build 0xFFF 15 (Vector.replicate 15 (Param.mk 0x03 0xFFFFFFFF)).toList).toOption.map List.length) = some 73 := by
  decide +kernel

theorem test_witness_FrameDescribesAndChecksItself : build 0x010 1 request7.slots.toList = .ok frame7 := by decide +kernel

theorem test_witness_BuildGivesTheRequestFormat : build 0x010 1 request7.slots.toList = .ok frame7 := by decide +kernel

theorem test_witness_BuildReportsTheFirstFailure :
    15 < (16#8).toNat ∧ (15#8).toNat ≤ 15 ∧
    paramError (request7.slots.toList.getD 0 ⟨0, 0⟩) = none ∧
    paramError (request7.slots.toList.getD 1 ⟨0, 0⟩) = some .unsupportedType ∧
    (∀ j < (1#8).toNat, paramError (request7.slots.toList.getD j ⟨0, 0⟩) = none) := by decide

theorem test_witness_BuildOperation :
    (atWork .build request7).performing .build = true ∧
    build request7.func request7.pcount request7.slots.toList = .ok frame7 ∧
    build (work .build).func 16 (work .build).slots.toList = .error ⟨.tooManyParams, 0⟩ := by decide +kernel

theorem test_witness_CommandWordRows :
    (∀ fc ∈ [0x010#12, 0x011#12, 0x021#12, 0x031#12, 0x041#12, 0x051#12, 0xFFF#12],
      (atWork .build (withRequest fc [⟨1, 1⟩] State.reset)).buildingFor fc ((1#4).setWidth 8) = true ∧
      (atWork .execute (withRequest fc [⟨1, 1⟩] State.reset)).buildingFor fc ((1#4).setWidth 8) = true) ∧
    build 0x010 1 request7.slots.toList = .ok frame7 ∧
    build 0x010 1 State.reset.slots.toList = .error ⟨.unsupportedType, 0⟩ := by decide +kernel

theorem test_witness_RequestFrameRow :
    (Instr.requestFrame 0x010 [⟨1, 1⟩]).wellFormed = true ∧
    (atWork .build request7).buildingFor 0x010 (BitVec.ofNat 8 1) = true ∧
    (atWork .execute request7).buildingFor 0x010 (BitVec.ofNat 8 1) = true ∧
    request7.slots.toList.take 1 = [⟨1, 1⟩] := by decide

/-- The values at which the tests of classify meet (R107): L = 4, n = L - 1, a wrong CRC, status 0, L = 6, and the codes at
the ends of the taxonomy. -/
theorem test_witness_ClassifyReadsTheFrameAndItsCode :
    (4#8).toNat < 5 ∧ 5 ≤ (5#8).toNat ∧ ([0x05, 0, 0, 0xA1] : List Byte).length < (5#8).toNat ∧
    crc16 (([0x05, 0, 0, 0xA1, 0xB4] : List Byte).take 5) ≠ 0x0000#16 ∧
    crc16 (([0x05, 0, 0, 0xA1, 0xB5] : List Byte).take 5) = 0x0000#16 ∧
    (∀ p ∈ ([[0x00, 0x01, 0x00], [0x00, 0x01, 0x00, 0x07], [0x00, 0x01, 0x00, 0x08]] : List (List Byte)),
      (responseBytes p).headD 0 = BitVec.ofNat 8 (responseBytes p).length ∧ crc16 (responseBytes p) = 0x0000#16 ∧
      (responseBytes p)[2]? ≠ some 0x00 ∧ (responseBytes p)[4]? ≠ none) ∧
    (responseBytes [0x00, 0x01, 0x00]).length = 6 ∧ 0x07 ∈ resultCodes ∧ 0x08 ∉ resultCodes := by decide +kernel

theorem test_witness_NopOperation : (work .nop).performing .nop = true := by decide

theorem test_witness_ClassifyOperation :
    (loaded [0x05, 0, 0, 0xA1, 0xB5] .classify).performing .classify = true ∧
    ([0x05, 0, 0, 0xA1, 0xB5] : List Byte).length = (loaded [0x05, 0, 0, 0xA1, 0xB5] .classify).rxCount.toNat ∧
    holdsBytes (loaded [0x05, 0, 0, 0xA1, 0xB5] .classify).rxbuf [0x05, 0, 0, 0xA1, 0xB5] = true := by decide

theorem test_witness_ExecuteBuilds :
    (atWork .execute request7).op = .execute ∧ (atWork .execute request7).seq = .compute ∧
    (atWork .execute request7).lat = 0 ∧ { atWork .execute request7 with lat := 1 }.lat ≠ 0 ∧
    build request7.func request7.pcount request7.slots.toList = .ok frame7 ∧
    build request7.func 16 request7.slots.toList = .error ⟨.tooManyParams, 0⟩ := by decide +kernel

theorem test_witness_ExecuteTransmits :
    sent.op = .execute ∧ sent.seq = .frameSent ∧ sent.ports.txReady = false ∧
    { sent with ports := Ports.takes }.ports.txReady = true ∧
    Memory.byte? sent.txbuf sent.txIdx.toNat = some 0x07 ∧ (sent.txIdx + 1).setWidth 8 ≠ sent.txLen ∧
    ({ sent with txIdx := 6 }.txIdx + 1).setWidth 8 = sent.txLen := by decide

theorem test_witness_ExecuteAwaitsLength :
    awaitingLength.op = .execute ∧ awaitingLength.seq = .awaitLen ∧ awaitingLength.ports.rxValid = false ∧
    (Ports.sends 0x04).rxValid = true ∧ (Ports.sends 0x04).rxData.toNat < 5 ∧ 5 ≤ (Ports.sends 0x05).rxData.toNat ∧
    awaitingLength.timer ≠ awaitingLength.window - 1 ∧
    { awaitingLength with timer := 3 }.timer = { awaitingLength with timer := 3 }.window - 1 := by decide

theorem test_witness_ExecuteAwaitsBody :
    awaitingBody.op = .execute ∧ awaitingBody.seq = .awaitBody ∧ awaitingBody.rxN.toNat < awaitingBody.rxLen.toNat ∧
    awaitingBody.ports.rxValid = false ∧ (Ports.sends 0xB5).rxValid = true ∧ awaitingBody.rxN + 1 = awaitingBody.rxLen ∧
    awaitingBody.timer = awaitingBody.window - 1 ∧
    { awaitingBody with timer := 2 }.timer ≠ { awaitingBody with timer := 2 }.window - 1 := by decide

theorem test_witness_ExecuteValidates :
    validated.op = .execute ∧ validated.seq = .validated ∧ validated.lat = 0 ∧ { validated with lat := 1 }.lat ≠ 0 ∧
    ([0x05, 0, 0, 0xA1, 0xB5] : List Byte).length = validated.rxN.toNat ∧
    holdsBytes validated.rxbuf [0x05, 0, 0, 0xA1, 0xB5] = true := by decide

/-- Table 2.7's responses for the four meanings. -/
theorem test_witness_ResponseFrameRow :
    (loaded (responseBytes [0x00, 0x00]) .classify).underTest = some (responseBytes [0x00, 0x00]) ∧
    (∀ p ∈ ([[0x00, 0x00], [0x00, 0x01, 0x00], [0x00, 0x01, 0x00, 0x02], [0x00, 0x01, 0x00, 0x08]] : List (List Byte)),
      (Instr.responseFrame p).wellFormed = true ∧
      (loaded (responseBytes p) .classify).underTest = some (responseBytes p) ∧
      (responseBytes p).take (p.length + 3) = responseBytes p) ∧
    validated.underTest = some (responseBytes [0x00, 0x00]) := by decide +kernel

theorem test_witness_ResultCodeRows :
    ∀ c ∈ resultCodes, (loaded (carrier c) .classify).underTest = some (carrier c) ∧
      carriedCode (carrier c) = some c := by decide +kernel

theorem test_witness_StepRunsTheDecodedInstruction :
    (during Ports.takes sent).latch.ports.rst = false ∧
    (during Ports.takes sent).latch.fetchWord = some 7 ∧ decode (.cmd 7) = .ok .execute ∧
    (during Ports.takes sent).latch.busy = true ∧
    (during (Ports.wr .cmd 0xFF) State.reset).latch.busy = false ∧
    (during (Ports.wr .cmd 0xFF) State.reset).latch.ports.writesCmd = true ∧
    (during (Ports.wr .func 0xFF) State.reset).latch.ports.writesCmd = false := by decide

theorem test_witness_RowsElsewhereChangeNothing :
    (∀ w, encode (.paramUint8 1) ≠ .cmd w) ∧ handles (.paramUint8 1) (work .encode) = false ∧
    decode (.cmd (Op.code .merge |>.setWidth 32)) = .ok .merge ∧ (work .encode).busy = true ∧
    (work .encode).op ≠ .merge := by
  refine ⟨fun w h => ?_, by decide, by decide, by decide, by decide⟩
  cases h

theorem test_witness_StepRunsTheRowItHandles :
    (work .build).latch.ports.rst = false ∧ handles .fc010 (atWork .build request7).latch = true ∧
    handles (.requestFrame 0x010 [⟨1, 1⟩]) (atWork .execute request7).latch = true ∧
    handles .noError validated.latch = true := by decide +kernel

theorem test_witness_FetchWordIsRunNext :
    decodeTableWord 32 7 = some .execute ∧ decodeTableWord 16 0x0111 = some .fc011 ∧
    decodeTableWord 8 0x33 = some (.pairUint32Uint32 0 0) ∧ decodeTableWord 8 0xFF = some .genericError := by decide

theorem test_witness_CmdWriteAcceptedOrRejected :
    (during (Ports.wr .cmd 3) State.reset).latch.ports.rst = false ∧
    (during (Ports.wr .cmd 3) State.reset).latch.ports.writesCmd = true ∧
    (during (Ports.wr .cmd 3) State.reset).latch.busy = false ∧ (during (Ports.wr .cmd 3) sent).latch.busy = true ∧
    decode (.cmd (sent.op.code.setWidth 32)) = .ok .execute := by decide

/-- The ends of the register ranges (R21). -/
theorem test_witness_RegisterMap :
    (HostReg.ptype 14).mapped = true ∧ (HostReg.pvalue 14).mapped = true ∧ (HostReg.txbuf 72).mapped = true ∧
    (HostReg.rxbuf 254).mapped = true ∧ regAt 0x0B7 = .pvalue 14 ∧ regAt 0x0B8 = .reserved ∧ regAt 0x523 = .txbuf 72 ∧
    regAt 0x524 = .reserved ∧ regAt 0xBFB = .rxbuf 254 ∧ regAt 0xBFC = .reserved := by decide

theorem test_witness_RegistersReadBack :
    State.reset.busy = false ∧ (HostReg.rxbuf 254).readWrite = true ∧ (HostReg.pvalue 14).readWrite = true ∧
    (HostReg.rxbuf 253).mapped = true ∧ HostReg.rxbuf 253 ≠ .rxbuf 254 := by decide

/-- The clauses about steps: a write of the last byte of RXBUF, of CRC_RESULT, of the last reserved offset, and of STATUS
with bit 1 0 and 1. -/
theorem test_witness_RegistersReadBack_steps :
    (during (Ports.wr (.rxbuf 254) 0x1FF) State.reset).latch.ports.rst = false ∧
    (during (Ports.wr (.rxbuf 254) 0x1FF) State.reset).latch.ports.writes = true ∧
    regAt (Ports.wr (.rxbuf 254) 0x1FF).busAddr = .rxbuf 254 ∧
    (nextOf (step (during (Ports.wr (.rxbuf 254) 0x1FF) State.reset))).readReg (.rxbuf 254) = 0x000000FF ∧
    (regAt (Ports.wr .crcResult 1).busAddr).readWrite = false ∧ (regAt 0xFFF).readWrite = false ∧
    regAt (Ports.wr .status 0xFFFFFFFD).busAddr = .status ∧
    (Ports.wr .status 0xFFFFFFFD).busWdata.getLsbD 1 = false ∧ (Ports.wr .status 2).busWdata.getLsbD 1 = true := by
  decide +kernel

theorem test_witness_WritesWhileBusy :
    (during (Ports.wr .func 1) sent).latch.ports.rst = false ∧ (during (Ports.wr .func 1) sent).latch.busy = true ∧
    (during (Ports.wr .func 1) sent).latch.ports.writes = true ∧
    decode (.cmd (sent.op.code.setWidth 32)) = .ok .execute ∧
    (regAt (Ports.wr .func 1).busAddr).request = true ∧ regAt (Ports.wr .ctrl 1).busAddr = .ctrl ∧
    regAt (Ports.wr .status 2).busAddr = .status ∧ (Ports.wr .status 2).busWdata.getLsbD 1 = true := by decide

theorem test_witness_HostReadsChangeNothing :
    (during (Ports.rd .status) sent).inputs = [Ports.rd .status] ∧ (Ports.rd .status).reads = true ∧
    (Ports.rd .status).rst = false ∧ State.reset.busy = false ∧
    Memory.byte? (writeRx 254 0xFF State.reset).rxbuf 254 = some 0xFF ∧ Memory.byte? sent.txbuf 0 = some 0x07 := by decide

theorem test_witness_StrayByteSetsOnlyItsFlag :
    (during (Ports.sends 0xFF) sent).inputs = [Ports.sends 0xFF] ∧ (Ports.sends 0xFF).rst = false ∧
    (Ports.sends 0xFF).rxValid = true ∧ sent.seq ≠ .awaitLen ∧ sent.seq ≠ .awaitBody ∧
    SafeState (during (Ports.sends 0x05) awaitingLength) ∧
    (nextOf (step (during (Ports.sends 0x05) awaitingLength))).seq = .awaitBody := by decide +kernel

theorem test_witness_ResetValues : ∃ t, (during Ports.reset sent).latch.ports.rst = true ∧
    step (during Ports.reset sent) = .next t := ⟨_, by decide, rfl⟩

theorem test_witness_ResetOverridesEverything :
    (during Ports.reset sent).latch.ports.rst = true ∧
    (during { Ports.reset with txReady := true } sent).latch.ports.rst = true ∧ sent.seq = .frameSent := by decide

theorem test_witness_SafeStateIsKept :
    SafeState State.reset ∧ SafeState (atWork .execute request7) ∧ SafeState sent ∧ SafeState awaitingLength ∧
    SafeState awaitingBody ∧ SafeState validated :=
  ⟨by decide, by decide +kernel, by decide +kernel, by decide +kernel, by decide +kernel, by decide +kernel⟩

/-- Each clause has a step that writes the register. -/
theorem test_witness_ResultRegistersHaveFewWriters :
    (nextOf (step (loaded [0x05, 0, 0] .checksum))).crcResult ≠ (loaded [0x05, 0, 0] .checksum).crcResult ∧
    (nextOf (step (atWork .build request7))).txLen ≠ (atWork .build request7).txLen ∧
    (nextOf (step (during (Ports.wr .rxCount 5) State.reset))).rxCount ≠ State.reset.rxCount ∧
    (nextOf (step validated)).rxCount ≠ validated.rxCount ∧
    (nextOf (step (during (Ports.wr (.rxbuf 254) 5) State.reset))).rxbuf ≠ State.reset.rxbuf ∧
    (nextOf (step (during (Ports.sends 0xB5) awaitingBody))).rxbuf ≠ awaitingBody.rxbuf := by decide +kernel

theorem test_witness_RequestRegistersAreFrozen :
    (during (Ports.wr .func 1) sent).latch.ports.rst = false ∧ (during (Ports.wr .func 1) sent).busy = true ∧
    (nextOf (step (during (Ports.wr .func 1) sent))).busy = true := by decide +kernel

theorem test_witness_BytesLeaveOnlyInFrameSent :
    sent.txValid = true ∧ Memory.byte? sent.txbuf sent.txIdx.toNat = some 0x07 ∧
    (during Ports.takes sent).latch.ports.rst = false ∧ sent.op = .execute ∧ sent.seq = .frameSent ∧
    (during Ports.takes sent).latch.ports.txReady = true ∧ (during Ports.quiet sent).latch.ports.txReady = false := by decide

theorem test_witness_OutcomesOfEachOperation :
    validated.latch.ports.rst = false ∧ validated.busy = true ∧ (nextOf (step validated)).busy = false := by decide +kernel

theorem test_witness_DoneAndInterrupt :
    validated.busy = true ∧ (nextOf (step validated)).busy = false ∧ validated.done = false ∧
    (nextOf (step validated)).done = true ∧ (nextOf (step (during (Ports.wr .cmd 0) State.reset))).busy = true ∧
    (nextOf (step (during (Ports.wr .status 2) { State.reset with done := true }))).done = false ∧
    (nextOf (step (during (Ports.wr .cmd 0) { State.reset with done := true }))).done = false := by decide +kernel

theorem test_witness_ResultsStayUntilTheNextCommand :
    (during (Ports.wr (.rxbuf 0) 1) State.reset).latch.ports.rst = false ∧ State.reset.busy = false ∧
    (during (Ports.wr (.rxbuf 0) 1) State.reset).latch.ports.writesCmd = false ∧
    regAt (Ports.wr (.rxbuf 0) 1).busAddr ≠ .rxCount ∧ regAt (Ports.wr (.rxbuf 0) 1).busAddr ≠ .rxbuf 1 := by decide

theorem test_witness_EventsThatMeet :
    (during (Ports.sends 0x05) { awaitingLength with timer := 3 }).timer = awaitingLength.window - 1 ∧
    (during (Ports.sends 0x05) { awaitingLength with timer := 3 }).latch.ports.rxValid = true ∧
    (nextOf (step (during (Ports.wr .status 2) validated))).busy = false ∧
    (during { Ports.wr .cmd 0 with rxValid := true } State.reset).latch.ports.writesCmd = true ∧
    (nextOf (step (during (Ports.wr .cmd 0) validated))).busy = false := by decide +kernel

theorem test_witness_ComputeLastsItsLatency :
    { work .nop with lat := 2, inputs := [Ports.takes, Ports.quiet, Ports.reset] }.lat = 2 ∧ (work .nop).seq = .compute ∧
    (∀ p ∈ [Ports.takes, Ports.quiet, Ports.reset].take 2, p.rst = false) := by decide

theorem test_witness_LengthWindowExpires :
    awaitingLength.op = .execute ∧ awaitingLength.seq = .awaitLen ∧
    awaitingLength.timer.toNat + 3 + 1 = awaitingLength.window.toNat ∧
    (∀ p ∈ (during Ports.takes awaitingLength).inputs.take (3 + 1), p.rst = false ∧ p.rxValid = false) := by decide

theorem test_witness_BodyWindowEnds :
    SafeState awaitingBody ∧ awaitingBody.seq = .awaitBody ∧
    (∀ p ∈ (during (Ports.sends 0xB5) awaitingBody).inputs.take (awaitingBody.window.toNat - awaitingBody.timer.toNat),
      p.rst = false) := by decide +kernel

theorem test_witness_UntakenFrameHangs :
    sent.op = .execute ∧ sent.seq = .frameSent ∧ sent.done = false ∧
    (∀ p ∈ (during (Ports.sends 1) sent).inputs.take 100, p.rst = false ∧ p.txReady = false) ∧
    (during Ports.reset sent).latch.ports.rst = true := by decide

theorem test_witness_ExecuteEndsAsClassified :
    SafeState validated ∧ validated.latch.ports.rst = false ∧ validated.busy = true ∧ validated.seq ≠ .compute ∧
    (nextOf (step validated)).busy = false ∧
    SafeState { awaitingLength with timer := 3 } ∧
    (nextOf (step { awaitingLength with timer := 3 })).busy = false :=
  ⟨by decide +kernel, by decide, by decide, by decide, by decide +kernel, by decide +kernel, by decide +kernel⟩

/-- Two blocks that differ in a CRC register, in CTRL and in their hosts' accesses. -/
theorem test_witness_ExecuteDependsOnRequestAndPeer :
    SameTransaction (during Ports.quiet validated)
      (during (Ports.wr .ctrl 1) { validated with crcResult := 0xFFFF, ie := true }) :=
  ⟨by decide, by decide, by decide, by decide, fun _ => ⟨rfl, fun _ _ => rfl⟩, by decide, by decide,
    fun _ => ⟨rfl, rfl, fun _ _ => rfl⟩⟩

/-- The rest of that witness: both are safe, both end. -/
theorem test_witness_ExecuteDependsOnRequestAndPeer_ends :
    SafeState (during Ports.quiet validated) ∧
    SafeState (during (Ports.wr .ctrl 1) { validated with crcResult := 0xFFFF, ie := true }) ∧
    (nextOf (step (during Ports.quiet validated))).busy = false :=
  ⟨by decide +kernel, by decide +kernel, by decide +kernel⟩

/-- S7's request against S9a's response, with TIMEOUT = 4, for the shortest window that does. -/
theorem test_witness_ExecuteEndToEnd :
    request7.seq = .idle ∧ build request7.func request7.pcount request7.slots.toList = .ok frame7 ∧
    ([0x05, 0, 0, 0xA1, 0xB5] : List Byte).head? = some (BitVec.ofNat 8 5) ∧ 5 - 1 ≤ request7.window.toNat := by
  decide +kernel

end Sys2Proof.Tests
end

section
/-! PROOFS. The body window of EXECUTE always ends. The laws of runs and of the cycle's inputs come first; the
statement follows from what one cycle of AWAIT_BODY can do, by induction on the cycles the window has left. -/

namespace Sys2Proof.Machine

/-! ### Runs and their inputs -/

/-- A run's first step, taken apart. -/
theorem run_succ_of_step {s t : State} (k : Nat) (h : step s = .next t) :
    Sys2Proof.core.run (k + 1) s = Sys2Proof.core.run k t := by
  simp only [Host.Core.run]
  rw [show Sys2Proof.core.step s = .next t from h]

/-- A property of the next cycles' ports that a quiet cycle has too holds of the next cycle's (log entry 2). -/
theorem latch_ports_of_forall_take {P : Ports → Prop} {s : State} {n : Nat} (hq : P Ports.quiet)
    (h : ∀ p ∈ s.inputs.take (n + 1), P p) : P s.latch.ports := by
  rw [latch_ports]
  cases hi : s.inputs with
  | nil => exact hq
  | cons p rest => exact h p (by simp [hi])

/-- A property of the next cycles' ports holds of the ports of those behind the first. -/
theorem forall_take_tail {P : Ports → Prop} {l : List Ports} {n : Nat} (h : ∀ p ∈ l.take (n + 1), P p) :
    ∀ p ∈ l.tail.take n, P p := by
  cases l with
  | nil => simp
  | cons q rest => exact fun p hp => h p (List.mem_cons_of_mem q hp)

/-! ### The window of a cycle of AWAIT_BODY -/

@[simp] theorem latch_window (s : State) : s.latch.window = s.window := by simp [State.window]

/-- No host write changes the window while BUSY (R43). -/
theorem portSide_window (s : State) (h : s.busy = true) : (portSide s).window = s.window := by
  rw [portSide_busy s h]; rfl

@[simp] theorem storeBody_seq (s : State) : (storeBody s).seq = s.seq := by unfold storeBody; split <;> rfl
@[simp] theorem storeBody_op (s : State) : (storeBody s).op = s.op := by unfold storeBody; split <;> rfl
@[simp] theorem storeBody_timer (s : State) : (storeBody s).timer = s.timer := by unfold storeBody; split <;> rfl
@[simp] theorem storeBody_window (s : State) : (storeBody s).window = s.window := by unfold storeBody; split <;> rfl
@[simp] theorem storeBody_inputs (s : State) : (storeBody s).inputs = s.inputs := by unfold storeBody; split <;> rfl

/-- In AWAIT_BODY without reset a step is EXECUTE's cycle of it (R114, R117). -/
theorem step_awaitBody (s : State) (hr : s.latch.ports.rst = false) (ho : s.op = .execute) (hs : s.seq = .awaitBody) :
    step s = .next (awaitBodyCycle (portSide s.latch)) := by
  rw [step_busy s hr ((busy_iff s).2 (by simp [hs])), ho]
  simp [Op.instr, exec, execExecute, executeCycle, ho, hs]

/-- EXECUTE is in AWAIT_BODY, `n` cycles of its window are left (R110), and no reset comes in them. -/
structure BodyWindowLeft (n : Nat) (s : State) : Prop where
  op      : s.op = .execute
  seq     : s.seq = .awaitBody
  left    : s.timer.toNat + n = s.window.toNat
  noReset : ∀ p ∈ s.inputs.take n, p.rst = false

/-- A safe state in AWAIT_BODY is EXECUTE's, and its window has not passed (R110). -/
theorem SafeState.timer_lt_window_of_awaitBody {s : State} (h : SafeState s) (hs : s.seq = .awaitBody) :
    s.op = .execute ∧ s.timer.toNat < s.window.toNat := by
  obtain ⟨-, -, -, -, hq⟩ := h
  simp only [sequencerOk, hs, Bool.and_eq_true, beq_iff_eq, decide_eq_true_eq] at hq
  obtain ⟨⟨⟨⟨⟨ho, -⟩, -⟩, -⟩, -⟩, hw⟩ := hq
  exact ⟨ho, hw⟩

/-! ### The cycles of the window -/

/-- What a cycle of AWAIT_BODY does to the window: it enters VALIDATED, or it is not the window's last and counts the
timer up, whatever byte came (R114). -/
theorem awaitBodyCycle_window (s : State) :
    (awaitBodyCycle s).seq = .validated ∨
    (s.timer ≠ s.window - 1 ∧ (awaitBodyCycle s).op = s.op ∧ (awaitBodyCycle s).seq = s.seq ∧
      (awaitBodyCycle s).timer = s.timer + 1 ∧ (awaitBodyCycle s).window = s.window ∧
      (awaitBodyCycle s).inputs = s.inputs) := by
  rcases awaitBodyCycle_cases s with ⟨-, e⟩ | ⟨-, -, e⟩ | ⟨-, hw, e⟩
  · left; rw [e]; rfl
  · left; rw [e]; rfl
  · right
    have ht : s.timer ≠ s.window - 1 := by
      simpa using mt (windowEnds_iff (storeBody s)).2 (by simp [hw])
    rw [e]
    exact ⟨ht, storeBody_op s, storeBody_seq s, congrArg (· + 1) (storeBody_timer s), storeBody_window s,
      storeBody_inputs s⟩

/-- One cycle of the window reaches VALIDATED, or leaves one cycle less of it, and not none. -/
theorem step_bodyWindowLeft {s : State} {n : Nat} (h : BodyWindowLeft (n + 1) s) :
    ∃ t, step s = .next t ∧ (t.seq = .validated ∨ (n ≠ 0 ∧ BodyWindowLeft n t)) := by
  obtain ⟨ho, hs, hl, hi⟩ := h
  have hr : s.latch.ports.rst = false := latch_ports_of_forall_take (P := (·.rst = false)) rfl hi
  have hb : s.latch.busy = true := (busy_iff _).2 (by simp [hs])
  refine ⟨_, step_awaitBody s hr ho hs, (awaitBodyCycle_window (portSide s.latch)).imp_right ?_⟩
  rintro ⟨ht, eo, es, et, ew, ei⟩
  rw [portSide_window _ hb] at ht ew
  simp only [portSide_op, portSide_seq, portSide_timer, portSide_inputs, latch_op, latch_seq, latch_timer, latch_inputs,
    latch_window] at ht eo es et ew ei
  refine ⟨fun hn => ht (by bv_omega), eo.trans ho, es.trans hs, ?_, ?_⟩
  · rw [et, ew]; bv_omega
  · rw [ei]; exact forall_take_tail hi

/-- With a cycle of the window left, VALIDATED is reached within those left. -/
theorem run_reaches_validated {n : Nat} {s : State} (hn : n ≠ 0) (h : BodyWindowLeft n s) :
    ∃ k t, 1 ≤ k ∧ k ≤ n ∧ Sys2Proof.core.run k s = .next t ∧ t.seq = .validated := by
  induction n generalizing s with
  | zero => exact absurd rfl hn
  | succ n ih =>
    obtain ⟨t, hst, hv | ⟨hn', ht⟩⟩ := step_bodyWindowLeft h
    · exact ⟨1, t, le_rfl, by omega, run_succ_of_step 0 hst, hv⟩
    · obtain ⟨k, u, -, hk, hrun, hu⟩ := ih hn' ht
      exact ⟨k + 1, u, by omega, by omega, (run_succ_of_step k hst).trans hrun, hu⟩

/-- Settles O56, by induction on the cycles the window has left: each either enters VALIDATED or counts the timer up, and
the last one enters it. -/
theorem bodyWindowEnds : Obligations.BodyWindowEnds := by
  unfold Obligations.BodyWindowEnds
  intro s hsafe hs hi
  obtain ⟨ho, hw⟩ := hsafe.timer_lt_window_of_awaitBody hs
  exact run_reaches_validated (by omega) ⟨ho, hs, by omega, hi⟩

end Sys2Proof.Machine
end

section
/-! PROOFS. Every cycle keeps the invariant of the block. What the ports can do to the host's registers, and what each
shared operation keeps of the invariant, come first; the statement follows by the cases of a step. -/

namespace Sys2Proof.Machine

/-! ### What the ports leave -/

@[simp] theorem latch_busy (s : State) : s.latch.busy = s.busy := by simp [State.busy]

@[simp] theorem portSide_busy_eq (s : State) : (portSide s).busy = s.busy := by simp [State.busy]

/-- A register write changes RXBUF only where it is one of RXBUF, with BUSY = 0 (R37, R43). -/
theorem writeReg_rxbuf_cases (s : State) (r : HostReg) (v : Word) :
    (s.writeReg r v).rxbuf = s.rxbuf ∨
    (s.busy = false ∧ ∃ i, r = .rxbuf i ∧
      (s.writeReg r v).rxbuf = Memory.write Config.rxbufSize i (v.extractLsb' 0 8) s.rxbuf) := by
  cases hb : s.busy
  · cases r
    case rxbuf i => exact .inr ⟨rfl, i, rfl, by simp [State.writeReg, whenIdle, hb]⟩
    case status => left; simp only [State.writeReg]; split <;> rfl
    all_goals left; simp [State.writeReg, whenIdle, hb]
  · exact .inl (by rw [writeReg_busy _ _ _ hb])

/-- The ports change RXBUF only by a host write of it with BUSY = 0 (R37, R43). -/
theorem portSide_rxbuf_cases (s : State) :
    (portSide s).rxbuf = s.rxbuf ∨
    (s.busy = false ∧ s.ports.writes = true ∧ ∃ i, regAt s.ports.busAddr = .rxbuf i ∧
      (portSide s).rxbuf = Memory.write Config.rxbufSize i (s.ports.busWdata.extractLsb' 0 8) s.rxbuf) := by
  unfold portSide hostWrite
  split
  · next hw =>
    have hb : (hostRead s).busy = s.busy := by simp [State.busy]
    simpa [hb, show s.ports.writes = true by simpa using hw] using
      writeReg_rxbuf_cases (hostRead s) (regAt (hostRead s).ports.busAddr) (hostRead s).ports.busWdata
  · simp

theorem wf_portSide_rxbuf (s : State) (h : Memory.wf Config.rxbufSize s.rxbuf = true) :
    Memory.wf Config.rxbufSize (portSide s).rxbuf = true := by
  obtain e | ⟨-, -, i, -, e⟩ := portSide_rxbuf_cases s <;> rw [e]
  · exact h
  · exact Memory.wf_write _ _ _ _ h

/-! ### The status fields of a completion -/

/-- With no result the status fields agree. -/
theorem statusConsistent_of_noResult (t : State) (ho : t.outcome = .none) (hp : t.preErr = .none)
    (hf : t.failCause = .none) (he : t.errSlot = 0) (hr : t.result = 0x00) : statusConsistent t := by
  simp [statusConsistent, ho, hp, hf, he, hr]

/-- The preconditions a check can raise, with the slots they can name (R124, R127). -/
def Precondition.possible (e : Precondition) : Prop :=
  (e.code = .tooManyParams ∧ e.slot = 0) ∨ ((e.code = .unsupportedType ∨ e.code = .valueRange) ∧ e.slot.toNat ≤ 14)

theorem possible_of_checkParam {p : Param} {slot : BitVec 4} {e : Precondition} (h : checkParam p slot = .error e)
    (hs : slot.toNat ≤ 14) : e.possible := by
  obtain ⟨c, hc, rfl⟩ := (checkParam_error p slot e).1 h
  exact .inr ⟨paramError_ne_none p c hc, hs⟩

theorem statusConsistent_raise (e : Precondition) (s : State) (h : e.possible) : statusConsistent (raise e s) := by
  obtain ⟨hc, hs⟩ | ⟨hc | hc, hs⟩ := h <;> simp [statusConsistent, hc, hs]

/-- What classify can answer: each of the four outcomes with its causes and its results (R107, R122, R123). -/
theorem classify_cases (buf : List Byte) :
    classify buf = ⟨.responseTimeout, .noLength, 0x00⟩ ∨
    (∃ f ∈ [FailCause.lengthTooSmall, .truncated, .crcMismatch, .noCodeByte], classify buf = ⟨.responseCrcError, f, 0x00⟩) ∨
    (∃ c ∈ resultCodes, classify buf = ⟨.protocol, .none, c⟩) ∨
    (∃ c, c ∉ resultCodes ∧ classify buf = ⟨.unknownCode, .none, c⟩) := by
  unfold classify
  split
  · exact .inl rfl
  · next len rest =>
    split
    · exact .inr (.inl ⟨_, by simp, rfl⟩)
    split
    · exact .inr (.inl ⟨_, by simp, rfl⟩)
    dsimp only
    split
    · exact .inr (.inl ⟨_, by simp, rfl⟩)
    split
    · exact .inr (.inr (.inl ⟨_, by decide, rfl⟩))
    split
    · exact .inr (.inl ⟨_, by simp, rfl⟩)
    split
    · next hc => exact .inr (.inr (.inl ⟨_, hc, rfl⟩))
    · next hc => exact .inr (.inr (.inr ⟨_, hc, rfl⟩))

theorem statusConsistent_conclude_classify (buf : List Byte) (s : State) (hp : s.preErr = .none) (he : s.errSlot = 0) :
    statusConsistent (conclude (classify buf) s) := by
  obtain h | ⟨f, hf, h⟩ | ⟨c, hc, h⟩ | ⟨c, hc, h⟩ := classify_cases buf
  · simp [statusConsistent, h, hp, he]
  · simp only [List.mem_cons, List.not_mem_nil, or_false] at hf
    obtain rfl | rfl | rfl | rfl := hf <;> simp [statusConsistent, h, hp, he]
  · simp [statusConsistent, h, hp, he, hc]
  · simpa [statusConsistent, h, hp, he] using unknown_range c hc

/-! ### What each shared operation keeps of the invariant -/

/-- In IDLE the invariant is about the buffers and the status fields alone. -/
theorem SafeState.of_idle {t : State} (hi : t.seq = .idle) (hb : buffersCanonical t) (hs : statusConsistent t)
    (hl : txLenBounded t) : SafeState t :=
  ⟨hb, hs, by simp [busyShowsNoResult, State.busy, hi], hl, by simp [sequencerOk, hi]⟩

theorem SafeState.latch {s : State} (h : SafeState s) : SafeState s.latch := by
  unfold State.latch; split <;> exact h

/-- The ports keep the invariant: while BUSY they change nothing it speaks of but clear a DONE that is 0. -/
theorem SafeState.portSide {s : State} (h : SafeState s) : SafeState (portSide s) := by
  obtain ⟨⟨ht, hr⟩, hs, hn, hl, hq⟩ := h
  by_cases hb : s.busy = true
  · obtain ⟨hd, hn⟩ := hn hb
    rw [portSide_busy s hb]
    exact ⟨⟨ht, hr⟩, hs, fun _ => ⟨by simp [hd], hn⟩, hl, hq⟩
  · have hi : s.seq = .idle := by simpa [busy_iff] using hb
    exact .of_idle (by simpa using hi) ⟨by simpa using ht, wf_portSide_rxbuf s hr⟩ (by simpa [statusConsistent] using hs)
      (by simpa [txLenBounded] using hl)

theorem SafeState.accept {s : State} (o : Op) (h : SafeState s) : SafeState (accept o s) := by
  obtain ⟨hb, -, -, hl, -⟩ := h
  exact ⟨hb, statusConsistent_of_noResult _ rfl rfl rfl rfl rfl, by simp [busyShowsNoResult], hl, by simp [sequencerOk]⟩

theorem safeState_resetCycle (s : State) : SafeState (resetCycle s) :=
  .of_idle rfl ⟨rfl, rfl⟩ (statusConsistent_of_noResult _ rfl rfl rfl rfl rfl) (Nat.zero_le _)

theorem SafeState.raise {s : State} {e : Precondition} (h : SafeState s) (he : e.possible) : SafeState (raise e s) :=
  .of_idle rfl h.1 (statusConsistent_raise e s he) (Nat.zero_le _)

/-- A completion with bytes that fit TXBUF. -/
theorem SafeState.produce {s : State} {bytes : List Byte} (h : SafeState s) (hb : s.busy = true)
    (hl : bytes.length ≤ Config.txbufSize) : SafeState (produce bytes s) := by
  obtain ⟨⟨ht, hr⟩, -, hn, -, -⟩ := h
  obtain ⟨-, -, -, hp, hf, he, hres⟩ := hn hb
  refine .of_idle rfl ⟨Memory.wf_writeAll _ _ _ _ ht, hr⟩ (statusConsistent_of_noResult _ rfl hp hf he hres) ?_
  simp only [txLenBounded, produce_txLen, BitVec.toNat_ofNat]
  exact (Nat.mod_le _ _).trans hl

/-- A completion with a classification of some bytes, which may change RX_COUNT and the count of free values. -/
theorem SafeState.conclude {s : State} (h : SafeState s) (hb : s.busy = true) (buf : List Byte) (n : BitVec 8) (d : Nat) :
    SafeState (conclude (classify buf) { s with rxCount := n, opDraws := d }) := by
  obtain ⟨hm, -, hn, hl, -⟩ := h
  obtain ⟨-, -, -, hp, -, he, -⟩ := hn hb
  exact .of_idle rfl hm (statusConsistent_conclude_classify buf _ hp he) hl

/-! ### The cycles of an operation -/

theorem encodeParam_length (t : IntType) (v : Word) : (encodeParam t v).length = 1 + typeWidth t := by
  simp [encodeParam, vbytes_length]; omega

theorem mergeParam_length (prev : List Byte) (t : IntType) (v : Word) (h : prev ≠ []) :
    (mergeParam prev t v).length = prev.length + typeWidth t := by
  cases prev with
  | nil => exact absurd rfl h
  | cons b prev => simp [mergeParam, encodeParam, vbytes_length]; omega

theorem typeWidth_le (t : IntType) : typeWidth t ≤ 4 := by cases t <;> decide

theorem SafeState.encodeWork {s : State} (h : SafeState s) (hb : s.busy = true) : SafeState (encodeWork s) := by
  obtain ⟨e, he, eq⟩ | ⟨ty, -, eq⟩ := encodeWork_cases s <;> rw [eq]
  · exact h.raise (possible_of_checkParam he (by decide))
  · refine h.produce hb ?_
    have := typeWidth_le ty
    rw [encodeParam_length, Config.txbufSize]; omega

theorem SafeState.mergeWork {s : State} (h : SafeState s) (hb : s.busy = true) : SafeState (mergeWork s) := by
  obtain ⟨e, he, eq⟩ | ⟨ty, e, -, he, eq⟩ | ⟨ty1, ty2, -, -, eq⟩ := mergeWork_cases s <;> rw [eq]
  · exact h.raise (possible_of_checkParam he (by decide))
  · exact h.raise (possible_of_checkParam he (by decide))
  · refine h.produce hb ?_
    have h1 := typeWidth_le ty1
    have h2 := typeWidth_le ty2
    rw [mergeParam_length _ _ _ (by simp [encodeParam]), encodeParam_length, Config.txbufSize]; omega

/-- TXBUF and TX_LEN hold the frame just written (R36, R104). -/
theorem sentFrame_startTransmit {s : State} {f : List Byte} (h : s.builtFrame = .ok f) :
    sentFrame (startTransmit f s) = true := by
  obtain ⟨-, hf⟩ := builtFrame_ok s f h
  have hbuilt : (startTransmit f s).builtFrame = .ok f := h
  have hlen : f.length = (startTransmit f s).txLen.toNat := by simp; omega
  simp only [sentFrame, hbuilt, Bool.and_eq_true, beq_iff_eq, holdsBytes_iff]
  exact ⟨hlen, beginsWith_writeAll _ _ _ hf⟩

theorem SafeState.startTransmit {s : State} {f : List Byte} (h : SafeState s) (hb : s.busy = true)
    (ho : s.op = .execute) (hf : s.builtFrame = .ok f) : SafeState (startTransmit f s) := by
  obtain ⟨⟨ht, hr⟩, hs, hn, -, -⟩ := h
  obtain ⟨h5, h73⟩ := builtFrame_ok s f hf
  have hlen : (Machine.startTransmit f s).txLen.toNat = f.length := by simp; omega
  refine ⟨⟨Memory.wf_writeAll _ _ _ _ ht, hr⟩, hs, fun _ => hn hb, by rw [txLenBounded, hlen]; exact h73, ?_⟩
  simp only [sequencerOk, startTransmit_seq, startTransmit_op, ho, sentFrame_startTransmit hf, hlen, startTransmit_txIdx]
  simp; omega

/-- The builder's cycle, of BUILD or EXECUTE. -/
theorem SafeState.builderWork {s : State} (h : SafeState s) (hb : s.busy = true) : SafeState (builderWork s) := by
  obtain ⟨e, he, eq⟩ | ⟨f, hf, ho, eq⟩ | ⟨f, hf, ho, eq⟩ := builderWork_cases s <;> rw [eq]
  · exact h.raise (builtFrame_error s e he)
  · exact h.startTransmit hb ho hf
  · exact h.produce hb (builtFrame_ok s f hf).2

/-! ### The cycles of EXECUTE behind COMPUTE -/

theorem sequencerOk_compute {s : State} (hs : s.seq = .compute) :
    sequencerOk s = true ↔ s.lat ≤ Config.localLatency - 1 := by
  simp [sequencerOk, hs]

theorem sequencerOk_frameSent {s : State} (hs : s.seq = .frameSent) :
    sequencerOk s = true ↔ s.op = .execute ∧ sentFrame s = true ∧ s.txIdx.toNat < s.txLen.toNat := by
  simp [sequencerOk, hs, and_assoc]

theorem sequencerOk_awaitLen {s : State} (hs : s.seq = .awaitLen) :
    sequencerOk s = true ↔
      s.op = .execute ∧ sentFrame s = true ∧ s.rxN = 0 ∧ s.timer.toNat < s.window.toNat := by
  simp [sequencerOk, hs, and_assoc]

theorem sequencerOk_awaitBody {s : State} (hs : s.seq = .awaitBody) :
    sequencerOk s = true ↔
      s.op = .execute ∧ sentFrame s = true ∧ receivedSome s = true ∧ 5 ≤ s.rxLen.toNat ∧
        s.rxN.toNat < s.rxLen.toNat ∧ s.timer.toNat < s.window.toNat := by
  simp [sequencerOk, hs, and_assoc]

theorem sequencerOk_validated {s : State} (hs : s.seq = .validated) :
    sequencerOk s = true ↔
      s.op = .execute ∧ sentFrame s = true ∧ receivedSome s = true ∧ (s.rxN = 1 ∨ s.rxN.toNat ≤ s.rxLen.toNat) ∧
        s.lat ≤ Config.localLatency - 1 := by
  simp [sequencerOk, hs, and_assoc]

theorem receivedSome_iff (s : State) :
    receivedSome s = true ↔
      1 ≤ s.rxN.toNat ∧ (∀ i < s.rxN.toNat, (Memory.byte? s.rxbuf i).isSome = true) ∧
        Memory.byte? s.rxbuf 0 = some s.rxLen := by
  simp [receivedSome, and_assoc]

/-- The length byte is the first one received (R113). -/
theorem receivedSome_writeRx_zero (b : Byte) (s : State) :
    receivedSome { writeRx 0 b s with rxN := 1, rxLen := b } = true := by
  rw [receivedSome_iff]
  refine ⟨by simp, fun i hi => ?_, by simp [Memory.byte?_write]⟩
  obtain rfl : i = 0 := by simpa using hi
  simp [Memory.byte?_write]

@[simp] theorem storeBody_rxLen (s : State) : (storeBody s).rxLen = s.rxLen := by unfold storeBody; split <;> rfl

/-- A cycle of AWAIT_BODY receives at most one byte (R114). -/
theorem storeBody_rxN_toNat {s : State} (h : s.rxN.toNat < s.rxLen.toNat) :
    s.rxN.toNat ≤ (storeBody s).rxN.toNat ∧ (storeBody s).rxN.toNat ≤ s.rxLen.toNat := by
  obtain ⟨-, e⟩ | ⟨-, e⟩ := storeBody_cases s <;> rw [e]
  · bv_omega
  · omega

/-- A byte of the body is stored behind those received (R114). -/
theorem receivedSome_storeBody {s : State} (h : receivedSome s = true) (hn : s.rxN.toNat < s.rxLen.toNat) :
    receivedSome (storeBody s) = true := by
  obtain ⟨-, e⟩ | ⟨-, e⟩ := storeBody_cases s <;> rw [e]
  · obtain ⟨h1, hw, h0⟩ := (receivedSome_iff s).1 h
    have hsucc : (s.rxN + 1).toNat = s.rxN.toNat + 1 := by bv_omega
    rw [receivedSome_iff]
    simp only [hsucc, writeRx_rxbuf, writeRx_rxLen, Memory.byte?_write]
    refine ⟨by omega, fun i hi => ?_, by rw [if_neg (by omega), h0]⟩
    split
    · rfl
    · next hne =>
      have := s.rxLen.isLt
      exact hw i (by simp only [Config.rxbufSize] at hne; omega)
  · exact h

theorem SafeState.waitCycle {s : State} (h : SafeState s) (hs : s.seq = .compute ∨ s.seq = .validated) :
    SafeState (waitCycle s) := by
  obtain ⟨hm, hst, hn, hl, hq⟩ := h
  refine ⟨hm, hst, hn, hl, ?_⟩
  obtain hs | hs := hs
  · have hlat := (sequencerOk_compute hs).1 hq
    exact (sequencerOk_compute (by exact hs)).2 ((Nat.sub_le _ _).trans hlat)
  · obtain ⟨ho, hf, hr, hx, hlat⟩ := (sequencerOk_validated hs).1 hq
    exact (sequencerOk_validated (by exact hs)).2 ⟨ho, hf, hr, hx, (Nat.sub_le _ _).trans hlat⟩

theorem SafeState.frameSentCycle {s : State} (h : SafeState s) (hs : s.seq = .frameSent) :
    SafeState (frameSentCycle s) := by
  obtain ⟨hm, hst, hn, hl, hq⟩ := id h
  obtain ⟨ho, hf, hi⟩ := (sequencerOk_frameSent hs).1 hq
  have hn := hn ((busy_iff s).2 (by simp [hs]))
  obtain ⟨-, e⟩ | ⟨-, -, e⟩ | ⟨-, hne, e⟩ := frameSentCycle_cases s hs <;> rw [e]
  · exact h
  · exact ⟨hm, hst, fun _ => hn, hl, (sequencerOk_awaitLen rfl).2 ⟨ho, hf, rfl, window_pos s⟩⟩
  · refine ⟨hm, hst, fun _ => hn, hl, (sequencerOk_frameSent (by exact hs)).2 ⟨ho, hf, ?_⟩⟩
    have hl : s.txLen.toNat ≤ 73 := hl
    show (s.txIdx + 1).toNat < s.txLen.toNat
    bv_omega

theorem SafeState.awaitLenCycle {s : State} (h : SafeState s) (hs : s.seq = .awaitLen) :
    SafeState (awaitLenCycle s) := by
  have hb : s.busy = true := (busy_iff s).2 (by simp [hs])
  obtain ⟨⟨ht, hr⟩, hst, hn, hl, hq⟩ := id h
  obtain ⟨ho, hf, h0, hw⟩ := (sequencerOk_awaitLen hs).1 hq
  have hn := hn hb
  have hr0 := Memory.wf_write _ 0 s.ports.rxData _ hr
  obtain ⟨-, -, e⟩ | ⟨-, h5, e⟩ | ⟨-, -, e⟩ | ⟨-, hne, e⟩ := awaitLenCycle_cases s <;> rw [e]
  · exact ⟨⟨ht, hr0⟩, hst, fun _ => hn, hl,
      (sequencerOk_validated rfl).2 ⟨ho, hf, receivedSome_writeRx_zero _ s, .inl rfl, le_rfl⟩⟩
  · exact ⟨⟨ht, hr0⟩, hst, fun _ => hn, hl,
      (sequencerOk_awaitBody rfl).2
        ⟨ho, hf, receivedSome_writeRx_zero _ s, h5, show 1 < s.ports.rxData.toNat by omega, window_pos s⟩⟩
  · exact h.conclude hb [] 0 s.opDraws
  · refine ⟨⟨ht, hr⟩, hst, fun _ => hn, hl, (sequencerOk_awaitLen (by exact hs)).2 ⟨ho, hf, h0, ?_⟩⟩
    show (s.timer + 1).toNat < s.window.toNat
    bv_omega

theorem wf_storeBody_rxbuf (s : State) (h : Memory.wf Config.rxbufSize s.rxbuf = true) :
    Memory.wf Config.rxbufSize (storeBody s).rxbuf = true := by
  obtain ⟨-, e⟩ | ⟨-, e⟩ := storeBody_cases s <;> rw [e]
  · exact Memory.wf_write _ _ _ _ h
  · exact h

/-- Storing a byte of the body keeps all of the invariant but `rx_n < rx_len`. -/
theorem SafeState.storeBody {s : State} (h : SafeState s) (hs : s.seq = .awaitBody) :
    buffersCanonical (storeBody s) ∧ statusConsistent (storeBody s) ∧ busyShowsNoResult (storeBody s) ∧
      txLenBounded (storeBody s) ∧ (storeBody s).op = .execute ∧ sentFrame (storeBody s) = true ∧
      receivedSome (storeBody s) = true ∧ 5 ≤ (storeBody s).rxLen.toNat ∧
      (storeBody s).rxN.toNat ≤ (storeBody s).rxLen.toNat ∧
      (storeBody s).timer.toNat < (storeBody s).window.toNat := by
  obtain ⟨⟨ht, hr⟩, hst, hn, hl, hq⟩ := id h
  obtain ⟨ho, hf, hrs, h5, hlt, hw⟩ := (sequencerOk_awaitBody hs).1 hq
  have hr' := wf_storeBody_rxbuf s hr
  have hrs' := receivedSome_storeBody hrs hlt
  have hle : (Machine.storeBody s).rxN.toNat ≤ (Machine.storeBody s).rxLen.toNat := by
    rw [storeBody_rxLen]; exact (storeBody_rxN_toNat hlt).2
  obtain ⟨-, e⟩ | ⟨-, e⟩ := storeBody_cases s <;> rw [e] at hr' hrs' hle ⊢ <;>
    exact ⟨⟨ht, hr'⟩, hst, hn, hl, ho, hf, hrs', h5, hle, hw⟩

theorem SafeState.awaitBodyCycle {s : State} (h : SafeState s) (hs : s.seq = .awaitBody) :
    SafeState (awaitBodyCycle s) := by
  have hs' : (Machine.storeBody s).seq = .awaitBody := by rw [storeBody_seq, hs]
  obtain ⟨hm, hst, hn, hl, ho, hf, hrs, h5, hle, hw⟩ := h.storeBody hs
  have hn := hn ((busy_iff _).2 (by rw [hs']; decide))
  have hv : SafeState (enterValidated (Machine.storeBody s)) :=
    ⟨hm, hst, fun _ => hn, hl, (sequencerOk_validated rfl).2 ⟨ho, hf, hrs, .inr hle, le_rfl⟩⟩
  obtain ⟨-, e⟩ | ⟨-, -, e⟩ | ⟨hne, hwe, e⟩ := awaitBodyCycle_cases s <;> rw [e]
  · exact hv
  · exact hv
  · have ht : (Machine.storeBody s).timer ≠ (Machine.storeBody s).window - 1 := by
      exact mt (windowEnds_iff _).2 (by rw [hwe]; decide)
    refine ⟨hm, hst, fun _ => hn, hl, (sequencerOk_awaitBody (by exact hs')).2 ⟨ho, hf, hrs, h5, ?_, ?_⟩⟩
    · exact lt_of_le_of_ne hle fun h => hne (BitVec.eq_of_toNat_eq h)
    · show ((Machine.storeBody s).timer + 1).toNat < (Machine.storeBody s).window.toNat
      bv_omega

theorem SafeState.validatedCycle {s : State} (h : SafeState s) (hs : s.seq = .validated) :
    SafeState (validatedCycle s) := by
  obtain ⟨-, e⟩ | ⟨-, e⟩ := validatedCycle_cases s hs <;> rw [e]
  · exact h.waitCycle (.inr hs)
  · exact h.conclude ((busy_iff s).2 (by simp [hs])) s.received s.rxN (s.opDraws + s.rxN.toNat)

/-! ### A step -/

/-- Every cycle of an operation keeps the invariant. -/
theorem SafeState.busyCycle {u t : State} (h : SafeState u) (hb : u.busy = true) (hc : BusyCycle u t) : SafeState t := by
  obtain ⟨hm, -, hn, hl, -⟩ := id h
  obtain ⟨-, -, -, hp, hf, he, hr⟩ := hn hb
  cases hc with
  | wait hs => exact h.waitCycle (.inl hs)
  | nop | checksum | verify => exact .of_idle rfl hm (statusConsistent_of_noResult _ rfl hp hf he hr) hl
  | encode => exact h.encodeWork hb
  | merge => exact h.mergeWork hb
  | build | execute => exact h.builderWork hb
  | classify => exact h.conclude hb u.hostBytes u.rxCount (u.opDraws + u.rxCount.toNat)
  | frameSent hs => exact h.frameSentCycle hs
  | awaitLen hs => exact h.awaitLenCycle hs
  | awaitBody hs => exact h.awaitBodyCycle hs
  | validated hs => exact h.validatedCycle hs
  | unreachable => exact h

/-- Settles O46: reset gives a safe state, and otherwise the ports keep the invariant and so does what follows them, the
acceptance or a cycle of the operation in progress. -/
theorem safeStateIsKept : Obligations.SafeStateIsKept := by
  unfold Obligations.SafeStateIsKept
  intro s t h hst
  have hp : SafeState (portSide s.latch) := h.latch.portSide
  cases hr : s.latch.ports.rst
  · obtain ⟨hb, hc⟩ | ⟨-, -, rfl⟩ | ⟨-, -, rfl⟩ := step_no_reset s t hr hst
    · exact hp.busyCycle (by simpa using hb) hc
    · exact hp.accept _
    · exact hp
  · rw [step_reset s hr] at hst
    cases hst
    exact safeState_resetCycle _

/-- Settles O45: an idle block with empty buffers and no result is safe. -/
theorem safeStateAtReset : Obligations.SafeStateAtReset :=
  .of_idle rfl ⟨rfl, rfl⟩ (statusConsistent_of_noResult _ rfl rfl rfl rfl rfl) (Nat.zero_le _)

end Sys2Proof.Machine
end

section
/-! PROOFS. Nothing but the request and the peer decides an EXECUTE. What each cycle of EXECUTE does comes first, one
equation per case; then each of these cycles is run from two blocks at the same point of the same EXECUTE. -/

namespace Sys2Proof.Machine

/-! ### The cycles of EXECUTE, one equation per case -/

/-- While an EXECUTE runs, a cycle without reset is EXECUTE's (R117, R120). -/
theorem step_execute (s : State) (hr : s.latch.ports.rst = false) (hb : s.busy = true) (ho : s.op = .execute) :
    step s = .next (executeCycle (portSide s.latch)) := by
  rw [step_busy s hr hb, ho]; rfl

section
variable {s : State}

theorem executeCycle_compute (hs : s.seq = .compute) : executeCycle s = localCycle .execute builderWork s := by
  simp [executeCycle, hs]

theorem executeCycle_frameSent (hs : s.seq = .frameSent) (ho : s.op = .execute) : executeCycle s = frameSentCycle s := by
  simp [executeCycle, hs, ho]

theorem executeCycle_awaitLen (hs : s.seq = .awaitLen) (ho : s.op = .execute) : executeCycle s = awaitLenCycle s := by
  simp [executeCycle, hs, ho]

theorem executeCycle_awaitBody (hs : s.seq = .awaitBody) (ho : s.op = .execute) : executeCycle s = awaitBodyCycle s := by
  simp [executeCycle, hs, ho]

theorem executeCycle_validated (hs : s.seq = .validated) (ho : s.op = .execute) : executeCycle s = validatedCycle s := by
  simp [executeCycle, hs, ho]

theorem builderWork_error {e : Precondition} (h : s.builtFrame = .error e) : builderWork s = raise e s := by
  simp [builderWork, h]

theorem builderWork_execute {f : List Byte} (h : s.builtFrame = .ok f) (ho : s.op = .execute) :
    builderWork s = startTransmit f s := by
  simp [builderWork, emitFrame, h, ho]

theorem frameSentCycle_not_ready (hr : s.ports.txReady = false) : frameSentCycle s = s := by
  simp [frameSentCycle, hr]

theorem frameSentCycle_last (hs : s.seq = .frameSent) (hr : s.ports.txReady = true)
    (hl : (s.txIdx + 1).setWidth 8 = s.txLen) :
    frameSentCycle s =
      { s with
        txIdx := s.txIdx + 1, taken := s.taken ++ [s.offered], opDraws := s.opDraws + 1
        seq := .awaitLen, timer := 0, rxN := 0 } := by
  obtain ⟨hr', -⟩ | ⟨-, -, e⟩ | ⟨-, hl', -⟩ := frameSentCycle_cases s hs
  · simp [hr] at hr'
  · exact e
  · exact absurd hl hl'

theorem frameSentCycle_next (hs : s.seq = .frameSent) (hr : s.ports.txReady = true)
    (hl : (s.txIdx + 1).setWidth 8 ≠ s.txLen) :
    frameSentCycle s = { s with txIdx := s.txIdx + 1, taken := s.taken ++ [s.offered], opDraws := s.opDraws + 1 } := by
  obtain ⟨hr', -⟩ | ⟨-, hl', -⟩ | ⟨-, -, e⟩ := frameSentCycle_cases s hs
  · simp [hr] at hr'
  · exact absurd hl' hl
  · exact e

theorem awaitLenCycle_short (hv : s.ports.rxValid = true) (h5 : s.ports.rxData.toNat < 5) :
    awaitLenCycle s = enterValidated { writeRx 0 s.ports.rxData s with rxN := 1, rxLen := s.ports.rxData } := by
  simp [awaitLenCycle, hv, h5]

theorem awaitLenCycle_long (hv : s.ports.rxValid = true) (h5 : ¬ s.ports.rxData.toNat < 5) :
    awaitLenCycle s =
      { writeRx 0 s.ports.rxData s with rxN := 1, rxLen := s.ports.rxData, seq := .awaitBody, timer := 0 } := by
  simp [awaitLenCycle, hv, h5]

theorem awaitLenCycle_expires (hv : s.ports.rxValid = false) (hw : windowEnds s = true) :
    awaitLenCycle s = conclude ⟨.responseTimeout, .noLength, 0x00⟩ { s with rxCount := 0 } := by
  simp [awaitLenCycle, hv, hw]

theorem awaitLenCycle_waits (hv : s.ports.rxValid = false) (hw : windowEnds s = false) :
    awaitLenCycle s = { s with timer := s.timer + 1 } := by
  simp [awaitLenCycle, hv, hw]

theorem storeBody_valid (hv : s.ports.rxValid = true) :
    storeBody s = { writeRx s.rxN.toNat s.ports.rxData s with rxN := s.rxN + 1 } := by
  simp [storeBody, hv]

theorem storeBody_silent (hv : s.ports.rxValid = false) : storeBody s = s := by
  simp [storeBody, hv]

theorem awaitBodyCycle_full (hn : (storeBody s).rxN = (storeBody s).rxLen) :
    awaitBodyCycle s = enterValidated (storeBody s) := by
  unfold awaitBodyCycle; exact if_pos hn

theorem awaitBodyCycle_expires (hw : windowEnds (storeBody s) = true) :
    awaitBodyCycle s = enterValidated (storeBody s) := by
  unfold awaitBodyCycle; simp only [if_pos hw, ite_self]

theorem awaitBodyCycle_waits (hn : (storeBody s).rxN ≠ (storeBody s).rxLen) (hw : windowEnds (storeBody s) = false) :
    awaitBodyCycle s = { storeBody s with timer := (storeBody s).timer + 1 } := by
  unfold awaitBodyCycle; simp only [if_neg hn, hw, Bool.false_eq_true, if_false]

theorem validatedCycle_waits (hl : s.lat ≠ 0) : validatedCycle s = waitCycle s := by
  simp [validatedCycle, hl]

theorem validatedCycle_ends (hs : s.seq = .validated) (hl : s.lat = 0) :
    validatedCycle s = conclude (classify s.received) (drew s.rxN.toNat { s with rxCount := s.rxN }) := by
  simp [validatedCycle, concludeTest, hs, hl]

end

/-! ### Two buffers that read alike -/

theorem agreeBelow_of_beginsWith {m m' : Memory} {bytes : List Byte} (h : beginsWith m bytes)
    (h' : beginsWith m' bytes) : agreeBelow bytes.length m m' :=
  fun i hi => (h i hi).trans (h' i hi).symm

theorem agreeBelow_zero (m m' : Memory) : agreeBelow 0 m m' := fun _ hi => absurd hi (Nat.not_lt_zero _)

/-- The same byte written next in both. -/
theorem agreeBelow_write {n size : Nat} {m m' : Memory} (b : Byte) (hn : n < size) (h : agreeBelow n m m') :
    agreeBelow (n + 1) (Memory.write size n b m) (Memory.write size n b m') := by
  intro i hi
  rw [Memory.byte?_write, Memory.byte?_write]
  by_cases hin : i = n
  · rw [if_pos ⟨hin, hn⟩, if_pos ⟨hin, hn⟩]
  · rw [if_neg (by tauto), if_neg (by tauto)]
    exact h i (by omega)

/-- Bytes that were all written are read alike, whatever free values are drawn. -/
theorem snapshot_congr {m m' : Memory} {n d d' : Nat} (h : agreeBelow n m m')
    (hw : ∀ i < n, (Memory.byte? m i).isSome = true) : Memory.snapshot m n d = Memory.snapshot m' n d' := by
  refine List.map_congr_left fun i hi => ?_
  have hi := List.mem_range.1 hi
  obtain ⟨b, hb⟩ := Option.isSome_iff_exists.1 (hw i hi)
  simp [Memory.byteOr, hb, ← h i hi]

/-! ### Two blocks at the same point of the same EXECUTE -/

/-- Two EXECUTEs after a cycle: both are at the same point again, or both have ended, and alike (R119). -/
def SameAfter (pastCompute : Bool) (s t : State) : Prop :=
  (s.busy = true ∧ t.busy = true ∧ SameTransaction s t) ∨
  (s.busy = false ∧ t.busy = false ∧ SameResult pastCompute s t)

theorem SameTransaction.latch {s t : State} (h : SameTransaction s t) : SameTransaction s.latch t.latch := by
  unfold State.latch
  split <;> split <;> exact ⟨h.seq, h.op, h.request, h.lat, h.tx, h.txIdx, h.timer, h.rx⟩

/-- Whatever their hosts do on the bus (R43). -/
theorem SameTransaction.portSide {s t : State} (h : SameTransaction s t) (hs : s.busy = true) (ht : t.busy = true) :
    SameTransaction (portSide s) (portSide t) := by
  rw [portSide_busy s hs, portSide_busy t ht]
  exact ⟨h.seq, h.op, h.request, h.lat, h.tx, h.txIdx, h.timer, h.rx⟩

section
variable {u v : State} (h : SameTransaction u v)
include h

theorem SameTransaction.builtFrame : u.builtFrame = v.builtFrame := by
  obtain ⟨hf, hp, hs, -⟩ := h.request
  simp [State.builtFrame, hf, hp, hs]

theorem SameTransaction.window : u.window = v.window := by
  obtain ⟨-, -, -, ht⟩ := h.request
  simp [State.window, ht]

/-- The precondition error, or the same frame in both TXBUFs (R98, R111). -/
theorem SameTransaction.builderWork : SameAfter false (builderWork u) (builderWork v) := by
  obtain ⟨hou, hov⟩ := h.op
  cases hf : u.builtFrame with
  | error e =>
    rw [builderWork_error hf, builderWork_error (h.builtFrame ▸ hf)]
    exact .inr ⟨rfl, rfl, ⟨rfl, rfl, rfl⟩, ⟨rfl, rfl⟩, rfl, agreeBelow_zero _ _, nofun⟩
  | ok f =>
    obtain ⟨-, h73⟩ := builtFrame_ok u f hf
    have htx : agreeBelow (BitVec.ofNat 8 f.length).toNat (startTransmit f u).txbuf (startTransmit f v).txbuf := by
      rw [toNat_len _ (by omega)]
      exact agreeBelow_of_beginsWith (beginsWith_writeAll _ _ _ h73) (beginsWith_writeAll _ _ _ h73)
    rw [builderWork_execute hf hou, builderWork_execute (h.builtFrame ▸ hf) hov]
    exact .inl ⟨rfl, rfl, rfl, ⟨hou, hov⟩, h.request, by simp, fun _ => ⟨rfl, htx⟩, fun _ => rfl, by simp, by simp⟩

/-- A waiting cycle of COMPUTE or VALIDATED (R111, R115). -/
theorem SameTransaction.waitCycle (hs : u.seq = .compute ∨ u.seq = .validated) {past : Bool} :
    SameAfter past (waitCycle u) (waitCycle v) := by
  have hb : u.busy = true := by obtain hs | hs := hs <;> simp [State.busy, hs]
  have hb' : v.busy = true := by rw [State.busy, ← h.seq]; exact hb
  exact .inl ⟨hb, hb', h.seq, h.op, h.request, fun hs => congrArg (· - 1) (h.lat hs), h.tx, h.txIdx, h.timer, h.rx⟩

/-- COMPUTE (R111). -/
theorem SameTransaction.executeCycle_compute (hs : u.seq = .compute) :
    SameAfter false (executeCycle u) (executeCycle v) := by
  have hs' : v.seq = .compute := h.seq ▸ hs
  obtain ⟨hou, hov⟩ := h.op
  rw [Machine.executeCycle_compute hs, Machine.executeCycle_compute hs']
  by_cases hl : u.lat = 0
  · rw [localCycle_performing _ _ _ ((performing_iff u _).2 ⟨hs, hou, hl⟩),
      localCycle_performing _ _ _ ((performing_iff v _).2 ⟨hs', hov, (h.lat (.inl hs)).symm.trans hl⟩)]
    exact h.builderWork
  · rw [localCycle_wait _ _ _ hs hou hl, localCycle_wait _ _ _ hs' hov (h.lat (.inl hs) ▸ hl)]
    exact h.waitCycle (.inl hs)

/-- FRAME_SENT (R112). -/
theorem SameTransaction.executeCycle_frameSent (hs : u.seq = .frameSent)
    (hr : u.ports.txReady = v.ports.txReady) : SameAfter true (executeCycle u) (executeCycle v) := by
  have hs' : v.seq = .frameSent := h.seq ▸ hs
  obtain ⟨hou, hov⟩ := h.op
  have hi := h.txIdx hs
  obtain ⟨hl, htx⟩ := h.tx (by simp [hs])
  rw [Machine.executeCycle_frameSent hs hou, Machine.executeCycle_frameSent hs' hov]
  cases hru : u.ports.txReady
  · rw [frameSentCycle_not_ready hru, frameSentCycle_not_ready (hr ▸ hru)]
    exact .inl ⟨by simp [State.busy, hs], by simp [State.busy, hs'], h⟩
  · have hrv := hr ▸ hru
    by_cases hlast : (u.txIdx + 1).setWidth 8 = u.txLen
    · rw [frameSentCycle_last hs hru hlast, frameSentCycle_last hs' hrv (hi ▸ hl ▸ hlast)]
      exact .inl ⟨rfl, rfl, rfl, ⟨hou, hov⟩, h.request, by simp, fun _ => ⟨hl, htx⟩, by simp, fun _ => rfl, by simp⟩
    · rw [frameSentCycle_next hs hru hlast, frameSentCycle_next hs' hrv (hi ▸ hl ▸ hlast)]
      exact .inl ⟨by simp [State.busy, hs], by simp [State.busy, hs'], h.seq, h.op, h.request, h.lat, h.tx,
        fun _ => congrArg (· + 1) hi, h.timer, h.rx⟩

/-- Where neither shows a result yet, two completions with one triple, of the same bytes received, are alike. -/
theorem SameTransaction.conclude (hs : u.seq ≠ .compute) (hu : busyShowsNoResult u) (hv : busyShowsNoResult v)
    (hb : u.busy = true) (c : Classification) (n : BitVec 8) (d e : Nat) (hrx : agreeBelow n.toNat u.rxbuf v.rxbuf) :
    SameAfter true (conclude c { u with rxCount := n, opDraws := d }) (conclude c { v with rxCount := n, opDraws := e }) := by
  have hb' : v.busy = true := by rw [State.busy, ← h.seq]; exact hb
  obtain ⟨-, -, -, hpu, -, heu, -⟩ := hu hb
  obtain ⟨-, -, -, hpv, -, hev, -⟩ := hv hb'
  obtain ⟨hl, htx⟩ := h.tx hs
  exact .inr ⟨rfl, rfl, ⟨rfl, rfl, rfl⟩, ⟨hpu.trans hpv.symm, heu.trans hev.symm⟩, hl, htx, fun _ => ⟨rfl, hrx⟩⟩

/-- AWAIT_LEN (R113). -/
theorem SameTransaction.executeCycle_awaitLen (hs : u.seq = .awaitLen) (hu : busyShowsNoResult u)
    (hv : busyShowsNoResult v) (hvalid : u.ports.rxValid = v.ports.rxValid) (hdata : u.ports.rxData = v.ports.rxData) :
    SameAfter true (executeCycle u) (executeCycle v) := by
  have hs' : v.seq = .awaitLen := h.seq ▸ hs
  have ht := h.timer (.inl hs)
  have hw : windowEnds u = windowEnds v := by simp [windowEnds, ht, h.window]
  obtain ⟨hou, hov⟩ := h.op
  have htx := h.tx (by simp [hs])
  have hrx : agreeBelow 1 (Memory.write Config.rxbufSize 0 u.ports.rxData u.rxbuf)
      (Memory.write Config.rxbufSize 0 v.ports.rxData v.rxbuf) :=
    hdata ▸ agreeBelow_write _ (by decide) (agreeBelow_zero _ _)
  rw [Machine.executeCycle_awaitLen hs hou, Machine.executeCycle_awaitLen hs' hov]
  cases hvu : u.ports.rxValid
  · have hvv := hvalid ▸ hvu
    cases hwu : windowEnds u
    · rw [awaitLenCycle_waits hvu hwu, awaitLenCycle_waits hvv (hw ▸ hwu)]
      exact .inl ⟨by simp [State.busy, hs], by simp [State.busy, hs'], h.seq, h.op, h.request, h.lat, h.tx, h.txIdx,
        fun _ => congrArg (· + 1) ht, h.rx⟩
    · rw [awaitLenCycle_expires hvu hwu, awaitLenCycle_expires hvv (hw ▸ hwu)]
      exact h.conclude (by simp [hs]) hu hv (by simp [State.busy, hs]) _ 0 _ _ (agreeBelow_zero _ _)
  · have hvv := hvalid ▸ hvu
    by_cases h5 : u.ports.rxData.toNat < 5
    · rw [awaitLenCycle_short hvu h5, awaitLenCycle_short hvv (hdata ▸ h5)]
      exact .inl ⟨rfl, rfl, rfl, h.op, h.request, fun _ => rfl, fun _ => htx, nofun, by simp [enterValidated],
        fun _ => ⟨rfl, hdata, hrx⟩⟩
    · rw [awaitLenCycle_long hvu h5, awaitLenCycle_long hvv (hdata ▸ h5)]
      exact .inl ⟨rfl, rfl, rfl, h.op, h.request, by simp, fun _ => htx, nofun, fun _ => rfl,
        fun _ => ⟨rfl, hdata, hrx⟩⟩

/-- A byte of the body, stored by both (R114). -/
theorem SameTransaction.storeBody (hs : u.seq = .awaitBody) (hlt : u.rxN.toNat < u.rxLen.toNat)
    (hvalid : u.ports.rxValid = v.ports.rxValid) (hdata : u.ports.rxData = v.ports.rxData) :
    SameTransaction (storeBody u) (storeBody v) := by
  cases hvu : u.ports.rxValid
  · rw [storeBody_silent hvu, storeBody_silent (hvalid ▸ hvu)]
    exact h
  · obtain ⟨hn, hlen, hrx⟩ := h.rx (.inl hs)
    have hsize : u.rxN.toNat < Config.rxbufSize := lt_of_lt_of_le hlt (Nat.le_of_lt_succ u.rxLen.isLt)
    have hrx' : agreeBelow (u.rxN + 1).toNat (Memory.write Config.rxbufSize u.rxN.toNat u.ports.rxData u.rxbuf)
        (Memory.write Config.rxbufSize v.rxN.toNat v.ports.rxData v.rxbuf) := by
      rw [show (u.rxN + 1).toNat = u.rxN.toNat + 1 by bv_omega, ← hn, ← hdata]
      exact agreeBelow_write _ hsize hrx
    rw [storeBody_valid hvu, storeBody_valid (hvalid ▸ hvu)]
    exact ⟨h.seq, h.op, h.request, h.lat, h.tx, h.txIdx, h.timer, fun _ => ⟨congrArg (· + 1) hn, hlen, hrx'⟩⟩

theorem SameTransaction.enterValidated (hs : u.seq = .awaitBody) :
    SameAfter true (enterValidated u) (enterValidated v) :=
  have htx := h.tx (by simp [hs])
  have hrx := h.rx (.inl hs)
  .inl ⟨rfl, rfl, rfl, h.op, h.request, fun _ => rfl, fun _ => htx, nofun, nofun, fun _ => hrx⟩

/-- AWAIT_BODY (R114). -/
theorem SameTransaction.executeCycle_awaitBody (hs : u.seq = .awaitBody) (hlt : u.rxN.toNat < u.rxLen.toNat)
    (hvalid : u.ports.rxValid = v.ports.rxValid) (hdata : u.ports.rxData = v.ports.rxData) :
    SameAfter true (executeCycle u) (executeCycle v) := by
  have hs' : v.seq = .awaitBody := h.seq ▸ hs
  obtain ⟨hou, hov⟩ := h.op
  have hst := h.storeBody hs hlt hvalid hdata
  have hsu : (Machine.storeBody u).seq = .awaitBody := by rw [storeBody_seq, hs]
  have hsv : (Machine.storeBody v).seq = .awaitBody := by rw [storeBody_seq, hs']
  obtain ⟨hn, hlen, -⟩ := hst.rx (.inl hsu)
  have ht := hst.timer (.inr hsu)
  have hw : windowEnds (Machine.storeBody u) = windowEnds (Machine.storeBody v) := by
    unfold windowEnds; rw [ht, hst.window]
  rw [Machine.executeCycle_awaitBody hs hou, Machine.executeCycle_awaitBody hs' hov]
  by_cases hfull : (Machine.storeBody u).rxN = (Machine.storeBody u).rxLen
  · rw [awaitBodyCycle_full hfull, awaitBodyCycle_full (hn ▸ hlen ▸ hfull)]
    exact hst.enterValidated hsu
  · cases hwu : windowEnds (Machine.storeBody u)
    · rw [awaitBodyCycle_waits hfull hwu, awaitBodyCycle_waits (hn ▸ hlen ▸ hfull) (hw ▸ hwu)]
      exact .inl ⟨(busy_iff _).2 (by rw [hsu]; nofun), (busy_iff _).2 (by rw [hsv]; nofun), hst.seq, hst.op,
        hst.request, hst.lat, hst.tx, hst.txIdx, fun _ => congrArg (· + 1) ht, hst.rx⟩
    · rw [awaitBodyCycle_expires hwu, awaitBodyCycle_expires (hw ▸ hwu)]
      exact hst.enterValidated hsu

/-- VALIDATED (R115): both classify the same bytes, since all of them were written. -/
theorem SameTransaction.executeCycle_validated (hs : u.seq = .validated) (hu : SafeState u)
    (hv : busyShowsNoResult v) : SameAfter true (executeCycle u) (executeCycle v) := by
  have hs' : v.seq = .validated := h.seq ▸ hs
  obtain ⟨hou, hov⟩ := h.op
  obtain ⟨-, -, hnu, -, hq⟩ := hu
  obtain ⟨-, -, hrs, -, -⟩ := (sequencerOk_validated hs).1 hq
  obtain ⟨-, hw, -⟩ := (receivedSome_iff u).1 hrs
  obtain ⟨hn, -, hrx⟩ := h.rx (.inr hs)
  have hreceived : u.received = v.received := by
    unfold State.received; rw [← hn]; exact snapshot_congr hrx hw
  rw [Machine.executeCycle_validated hs hou, Machine.executeCycle_validated hs' hov]
  by_cases hl : u.lat = 0
  · have hends : validatedCycle v = Machine.conclude (classify u.received)
        { v with rxCount := u.rxN, opDraws := v.opDraws + u.rxN.toNat } := by
      rw [validatedCycle_ends hs' ((h.lat (.inr hs)).symm.trans hl), hreceived, hn]; rfl
    rw [validatedCycle_ends hs hl, hends]
    exact h.conclude (by simp [hs]) hnu hv (by simp [State.busy, hs]) _ u.rxN _ _ hrx
  · rw [validatedCycle_waits hl, validatedCycle_waits (h.lat (.inr hs) ▸ hl)]
    exact h.waitCycle (.inr hs)

end

/-- One cycle of two EXECUTEs at the same point, with the same doings of the peer (R117, R119). -/
theorem SameTransaction.executeCycle {u v : State} (h : SameTransaction u v) (hb : u.busy = true) (hu : SafeState u)
    (hv : SafeState v) (hr : u.ports.txReady = v.ports.txReady) (hvalid : u.ports.rxValid = v.ports.rxValid)
    (hdata : u.ports.rxData = v.ports.rxData) :
    SameAfter (u.seq != .compute) (executeCycle u) (executeCycle v) := by
  obtain ⟨-, -, hnu, -, hq⟩ := id hu
  obtain ⟨-, -, hnv, -, -⟩ := hv
  cases hs : u.seq with
  | idle => exact absurd hs ((busy_iff u).1 hb)
  | compute => exact h.executeCycle_compute hs
  | frameSent => exact h.executeCycle_frameSent hs hr
  | awaitLen => exact h.executeCycle_awaitLen hs hnu hnv hvalid hdata
  | awaitBody =>
    obtain ⟨-, -, -, -, hlt, -⟩ := (sequencerOk_awaitBody hs).1 hq
    exact h.executeCycle_awaitBody hs hlt hvalid hdata
  | validated => exact h.executeCycle_validated hs hu hnv

/-- Settles O59: the ports keep two blocks at the same point of the same EXECUTE, and so does each of EXECUTE's cycles, or
it ends both alike. -/
theorem executeDependsOnRequestAndPeer : Obligations.ExecuteDependsOnRequestAndPeer := by
  unfold Obligations.ExecuteDependsOnRequestAndPeer
  intro s t s' t' hs ht h hb hrs hrt hready hvalid hdata hst htt
  have hb' : t.busy = true := by rw [State.busy, ← h.seq]; exact hb
  obtain ⟨hos, hot⟩ := h.op
  rw [step_execute s hrs hb hos] at hst
  rw [step_execute t hrt hb' hot] at htt
  cases hst
  cases htt
  have hports := h.latch.portSide (by simpa using hb) (by simpa using hb')
  simpa [SameAfter] using hports.executeCycle (by simpa using hb) hs.latch.portSide ht.latch.portSide (by simpa using hready)
    (by simpa using hvalid) (by simpa using hdata)

end Sys2Proof.Machine
end

section
/-! PROOFS. The operations on received bytes, CHECKSUM, VERIFY and CLASSIFY, and EXECUTE's transmission. -/

namespace Sys2Proof.Machine

/-! ### The bytes an operation reads -/

/-- A read gives every byte that was written since reset (R38). -/
theorem agreesWith_snapshot (m : Memory) (n d : Nat) : agreesWith m (Memory.snapshot m n d) := by
  intro i hi b hb
  rw [Memory.snapshot_length] at hi
  rw [Memory.snapshot_getElem?, if_pos hi]
  simp [Memory.byteOr, hb]

/-- RXBUF[0..RX_COUNT) as an operation reads it (R38). -/
theorem hostBytes_spec (s : State) :
    s.hostBytes.length = s.rxCount.toNat ∧ agreesWith s.rxbuf s.hostBytes :=
  ⟨Memory.snapshot_length _ _ _, agreesWith_snapshot _ _ _⟩

/-- The byte offered is the byte of TXBUF where one was written (R19, R112). -/
theorem offered_of_byte? {s : State} {b : Byte} (h : Memory.byte? s.txbuf s.txIdx.toNat = some b) : s.offered = b := by
  simp [State.offered, Memory.byteOr, h]

/-! ### CHECKSUM, VERIFY and CLASSIFY -/

theorem exec_checksum {s : State} (h : s.performing .checksum = true) : exec .checksum s = .next (checksumWork s) :=
  congrArg _ (localCycle_performing _ _ _ h)

theorem exec_verify {s : State} (h : s.performing .verify = true) : exec .verify s = .next (verifyWork s) :=
  congrArg _ (localCycle_performing _ _ _ h)

theorem exec_classify {s : State} (h : s.performing .classify = true) : exec .classify s = .next (classifyWork s) :=
  congrArg _ (localCycle_performing _ _ _ h)

/-- CLASSIFY's work is a completion with the triple of the bytes it reads (R121). -/
theorem classified_classifyWork {s : State} (h : s.performing .classify = true) :
    Classified (classify s.hostBytes) s (classifyWork s) := by
  obtain ⟨hs, -, -⟩ := (performing_iff s _).1 h
  simp only [Classified, hs, reduceCtorEq, if_false]
  rfl

/-- Settles O12: CRC_RESULT is the CRC of the bytes CHECKSUM reads. -/
theorem checksumOperation : Obligations.ChecksumOperation := by
  unfold Obligations.ChecksumOperation
  intro s h
  obtain ⟨hlen, hagree⟩ := hostBytes_spec s
  refine ⟨_, exec_checksum h, rfl, ⟨s.hostBytes, hlen, hagree, rfl⟩, fun bytes hn hb => ?_⟩
  rw [← hostBytes_of_beginsWith s bytes hn hb]; rfl

/-- Settles O13: CRC_RESULT is the CRC of the bytes VERIFY reads, and VERIFY_OK compares that CRC. -/
theorem verifyOperation : Obligations.VerifyOperation := by
  unfold Obligations.VerifyOperation
  intro s h
  obtain ⟨hlen, hagree⟩ := hostBytes_spec s
  refine ⟨_, exec_verify h, rfl, beq_iff_eq, ⟨s.hostBytes, hlen, hagree, rfl⟩, fun bytes hn hb => ?_⟩
  rw [← hostBytes_of_beginsWith s bytes hn hb]; rfl

/-- Settles O23: the triple is that of the bytes CLASSIFY reads. -/
theorem classifyOperation : Obligations.ClassifyOperation := by
  unfold Obligations.ClassifyOperation
  intro s h
  obtain ⟨hlen, hagree⟩ := hostBytes_spec s
  refine ⟨_, exec_classify h, ⟨s.hostBytes, hlen, hagree, classified_classifyWork h⟩, fun bytes hn hb => ?_⟩
  rw [← hostBytes_of_beginsWith s bytes hn hb]
  exact classified_classifyWork h

/-! ### EXECUTE in FRAME_SENT -/

theorem exec_execute_frameSent {s : State} (ho : s.op = .execute) (hs : s.seq = .frameSent) :
    exec .execute s = .next (frameSentCycle s) :=
  congrArg _ (executeCycle_frameSent hs ho)

/-- Settles O25, by the three cases of a cycle of FRAME_SENT. -/
theorem executeTransmits : Obligations.ExecuteTransmits := by
  unfold Obligations.ExecuteTransmits
  intro s ho hs
  rw [exec_execute_frameSent ho hs]
  refine ⟨fun hr => by rw [frameSentCycle_not_ready hr], fun hr => ⟨fun b => offered_of_byte?, ?_, ?_⟩⟩
  · exact fun hl => by rw [frameSentCycle_next hs hr hl]
  · exact fun hl => by rw [frameSentCycle_last hs hr hl]

end Sys2Proof.Machine
end

section
/-! PROOFS. The cycle and its parts: which instruction a cycle runs, what a host write does in it, and, by what a cycle of
an operation can do at most, which registers each step can change. -/

namespace Sys2Proof.Machine

/-! ### The instruction of a cycle -/

theorem decode_cmd (w : Word) : decode (.cmd w) = .ok (decodeCmd w) := rfl

/-- The instruction of the operation in progress (R39, R76). -/
theorem instr_of_decode_code {o : Op} {i : Instr} (h : decode (.cmd (o.code.setWidth 32)) = .ok i) : i = o.instr := by
  rw [decode_cmd, decodeCmd_code] at h; cases h; rfl

theorem fetchWord_busy {s : State} (h : s.busy = true) : s.fetchWord = some (s.op.code.setWidth 32) := by
  simp [State.fetchWord, h]

theorem fetchWord_idle_cmd {s : State} (h : s.busy = false) (hc : s.ports.writesCmd = true) :
    s.fetchWord = some s.ports.busWdata := by
  simp [State.fetchWord, h, hc]

theorem step_of_fetchWord {s : State} {w : Word} (hr : s.latch.ports.rst = false) (h : s.latch.fetchWord = some w) :
    step s = exec (decodeCmd w) (portSide s.latch) := by
  simp [step, hr, State.fetch, h]

/-- Settles O31: the word fetched decides, and without one only the ports act. -/
theorem stepRunsTheDecodedInstruction : Obligations.StepRunsTheDecodedInstruction := by
  unfold Obligations.StepRunsTheDecodedInstruction
  intro s hr
  refine ⟨fun w i hw hd => ?_, fun hb => ?_, fetchWord_idle_cmd, fun hb hc => ?_⟩
  · rw [decode_cmd] at hd
    cases hd
    exact step_of_fetchWord hr hw
  · rw [fetchWord_busy hb, latch_op]
  · exact step_idle_quiet s hr (by simpa using hb) hc

/-- Settles O36: reset, the ports' part and every meaning answer a next state. -/
theorem everyCycleHasANextState : Obligations.EveryCycleHasANextState := by
  unfold Obligations.EveryCycleHasANextState
  intro s
  cases hr : s.latch.ports.rst
  · cases hb : s.busy
    · cases hc : s.latch.ports.writesCmd
      · exact ⟨_, step_idle_quiet s hr hb hc⟩
      · exact ⟨_, step_idle_cmd s hr hb hc⟩
    · rw [step_busy s hr hb]; exact exec_answers_next _ _
  · exact ⟨_, step_reset s hr⟩

/-! ### Reset -/

theorem slot_eq_getElem (s : State) {i : Nat} (h : i < 15) : s.slot i = s.slots[i] := by
  simp [State.slot, List.getD, h]

theorem slot_reset {i : Nat} (h : i < 15) : State.reset.slot i = ⟨0x00, 0x00000000⟩ := by
  rw [slot_eq_getElem _ h]; exact Vector.getElem_replicate h

/-- Right after reset, or a cycle of it, only what lies outside the block can differ from the reset state (R141). -/
theorem eq_reset_of_reset {t : State} (h : t = State.reset ∨ ∃ s, s.latch.ports.rst = true ∧ step s = .next t) :
    ∃ p is r bs d e k, t = { State.reset with
      ports := p, inputs := is, rdata := r, taken := bs, opDraws := d, hostDraws := e, idleDraws := k } := by
  obtain rfl | ⟨s, hr, hst⟩ := h
  · exact ⟨_, _, _, _, _, _, _, rfl⟩
  · rw [step_reset s hr] at hst
    cases hst
    exact ⟨_, _, _, _, _, _, _, rfl⟩

/-- Settles O43: the reset state has the table's values, and only what lies outside the block can differ from it. -/
theorem resetValues : Obligations.ResetValues := by
  unfold Obligations.ResetValues
  intro t ht
  have hw : State.reset.statusWord = 0x00000000 := by decide
  obtain ⟨_, _, _, _, _, _, _, rfl⟩ := eq_reset_of_reset ht
  exact ⟨rfl, hw, rfl, rfl, rfl, rfl, rfl, rfl, rfl, rfl, fun _ => slot_reset, fun _ => ⟨rfl, rfl⟩, rfl, rfl, rfl, rfl,
    rfl, rfl, rfl⟩

/-! ### A host write in a cycle -/

theorem hostRead_of_not_reads {s : State} (h : s.ports.reads = false) : hostRead s = s := by
  simp [hostRead, h]

theorem Ports.reads_of_writes {p : Ports} (h : p.writes = true) : p.reads = false := by
  simp_all [Ports.reads, Ports.writes]

theorem Ports.writes_of_writesCmd {p : Ports} (h : p.writesCmd = true) : p.writes = true ∧ regAt p.busAddr = .cmd := by
  simpa [Ports.writesCmd] using h

/-- In a cycle with a host write the ports write the register and discard a stray byte. -/
theorem portSide_of_writes {s : State} (h : s.ports.writes = true) :
    portSide s = strayByte (s.writeReg (regAt s.ports.busAddr) s.ports.busWdata) := by
  rw [portSide, hostRead_of_not_reads (Ports.reads_of_writes h), hostWrite, if_pos h]

/-- While BUSY a write of a request register has no effect (R43). -/
theorem writeReg_request_busy {s : State} {r : HostReg} (v : Word) (hb : s.busy = true) (hr : r.request = true) :
    s.writeReg r v = s := by
  cases r <;> simp [HostReg.request] at hr <;> simp [State.writeReg, whenIdle, hb]

/-- Settles O35: in IDLE the write itself does nothing and the acceptance all; while BUSY the write sets REJECTED. -/
theorem cmdWriteAcceptedOrRejected : Obligations.CmdWriteAcceptedOrRejected := by
  unfold Obligations.CmdWriteAcceptedOrRejected
  intro s hr hc
  obtain ⟨hw, ha⟩ := Ports.writes_of_writesCmd hc
  have hport := portSide_of_writes hw
  rw [ha] at hport
  refine ⟨fun hb => ?_, fun hb i hi => ?_⟩
  · rw [step_idle_cmd s hr (by simpa using hb) hc, hport, State.writeReg, if_neg (by simp [hb]), strayByte_eq]
    rfl
  · rw [step_busy s hr (by simpa using hb), hport, State.writeReg, if_pos hb, instr_of_decode_code hi]

/-- Settles O40, by what each write does while BUSY. -/
theorem writesWhileBusy : Obligations.WritesWhileBusy := by
  unfold Obligations.WritesWhileBusy
  intro s i hr hb hw hi
  rw [step_busy s hr (by simpa using hb), portSide_of_writes hw, instr_of_decode_code hi]
  refine ⟨fun hq => ?_, fun ha => ?_, fun ha hv => ?_⟩
  · rw [writeReg_request_busy _ hb hq]
  · rw [ha]; rfl
  · rw [ha, State.writeReg, if_pos hv]; rfl

end Sys2Proof.Machine
end

section
/-! PROOFS. Which registers a step can change. What a cycle of an operation can do at most is said once; each statement
about a step's writers, about DONE and about events that meet follows from its cases. -/

namespace Sys2Proof.Machine

/-! ### What a cycle while BUSY can do at most -/

/-- The effects a cycle while BUSY can have, from the state `u` after the ports' part of it, with what they need. -/
inductive CycleEffect (u : State) : State → Prop where
  | nothing : CycleEffect u u
  | waits : CycleEffect u (waitCycle u)
  | endsNop : CycleEffect u (completeNone u)
  | raises (o : Op) (e : Precondition) (hp : u.performing o = true) (ho : o ∈ [.encode, .merge, .build, .execute]) :
      CycleEffect u (raise e u)
  | produces (o : Op) (bytes : List Byte) (hp : u.performing o = true) (ho : o ∈ [.encode, .merge, .build]) :
      CycleEffect u (produce bytes u)
  | transmits (frame : List Byte) (hp : u.performing .execute = true) : CycleEffect u (startTransmit frame u)
  | checksums (hp : u.performing .checksum = true) : CycleEffect u (checksumWork u)
  | verifies (hp : u.performing .verify = true) : CycleEffect u (verifyWork u)
  | classifies : CycleEffect u (classifyWork u)
  | sends (q : SeqState) (n : BitVec 8) (w : Word) (ho : u.op = .execute) (hs : u.seq = .frameSent)
      (hr : u.ports.txReady = true) (hq : q ≠ .idle) :
      CycleEffect u { u with
        txIdx := u.txIdx + 1, taken := u.taken ++ [u.offered], opDraws := u.opDraws + 1, seq := q, timer := w, rxN := n }
  | receives (i : Nat) (n len : BitVec 8) (q : SeqState) (w : Word) (l : Nat) (ho : u.op = .execute)
      (hs : u.seq = .awaitLen ∨ u.seq = .awaitBody) (hv : u.ports.rxValid = true) (hq : q ≠ .idle) :
      CycleEffect u { writeRx i u.ports.rxData u with rxN := n, rxLen := len, seq := q, timer := w, lat := l }
  | passes (q : SeqState) (w : Word) (l : Nat) (hb : u.busy = true) (hq : q ≠ .idle) :
      CycleEffect u { u with seq := q, timer := w, lat := l }
  | concludes (c : Classification) (n : BitVec 8) (d : Nat) (ho : u.op = .execute)
      (hs : u.seq = .awaitLen ∨ u.seq = .validated) :
      CycleEffect u (conclude c { u with rxCount := n, opDraws := d })

section
variable {u : State}

theorem CycleEffect.encodeWork (hp : u.performing .encode = true) : CycleEffect u (encodeWork u) := by
  obtain ⟨e, -, eq⟩ | ⟨ty, -, eq⟩ := encodeWork_cases u <;> rw [eq]
  · exact .raises _ e hp (by decide)
  · exact .produces _ _ hp (by decide)

theorem CycleEffect.mergeWork (hp : u.performing .merge = true) : CycleEffect u (mergeWork u) := by
  obtain ⟨e, -, eq⟩ | ⟨ty, e, -, -, eq⟩ | ⟨ty1, ty2, -, -, eq⟩ := mergeWork_cases u <;> rw [eq]
  · exact .raises _ e hp (by decide)
  · exact .raises _ e hp (by decide)
  · exact .produces _ _ hp (by decide)

theorem CycleEffect.builderWork (hp : u.performing .build = true ∨ u.performing .execute = true) :
    CycleEffect u (builderWork u) := by
  obtain ⟨e, -, eq⟩ | ⟨f, -, ho, eq⟩ | ⟨f, -, ho, eq⟩ := builderWork_cases u <;> rw [eq] <;> obtain hp | hp := hp
  · exact .raises _ e hp (by decide)
  · exact .raises _ e hp (by decide)
  · simp [((performing_iff u _).1 hp).2.1] at ho
  · exact .transmits f hp
  · exact .produces _ _ hp (by decide)
  · exact absurd ((performing_iff u _).1 hp).2.1 ho

theorem CycleEffect.frameSentCycle (hs : u.seq = .frameSent) (ho : u.op = .execute) :
    CycleEffect u (frameSentCycle u) := by
  obtain ⟨-, e⟩ | ⟨hr, -, e⟩ | ⟨hr, -, e⟩ := frameSentCycle_cases u hs <;> rw [e]
  · exact .nothing
  · exact .sends .awaitLen 0 0 ho hs hr (by decide)
  · exact .sends u.seq u.rxN u.timer ho hs hr (by simp [hs])

theorem CycleEffect.awaitLenCycle (hs : u.seq = .awaitLen) (ho : u.op = .execute) :
    CycleEffect u (awaitLenCycle u) := by
  obtain ⟨hv, -, e⟩ | ⟨hv, -, e⟩ | ⟨-, -, e⟩ | ⟨-, -, e⟩ := awaitLenCycle_cases u <;> rw [e]
  · exact .receives 0 1 _ .validated u.timer _ ho (.inl hs) hv (by decide)
  · exact .receives 0 1 _ .awaitBody 0 u.lat ho (.inl hs) hv (by decide)
  · exact .concludes _ 0 u.opDraws ho (.inl hs)
  · exact .passes u.seq _ u.lat ((busy_iff u).2 (by simp [hs])) (by simp [hs])

/-- Whatever is done to the sequencer behind the storing of a byte. -/
theorem CycleEffect.storeBody (hs : u.seq = .awaitBody) (ho : u.op = .execute) (q : SeqState) (w : Word) (l : Nat)
    (hq : q ≠ .idle) : CycleEffect u { storeBody u with seq := q, timer := w, lat := l } := by
  obtain ⟨hv, e⟩ | ⟨-, e⟩ := storeBody_cases u <;> rw [e]
  · exact .receives _ _ u.rxLen q w l ho (.inr hs) hv hq
  · exact .passes q w l ((busy_iff u).2 (by simp [hs])) hq

theorem CycleEffect.awaitBodyCycle (hs : u.seq = .awaitBody) (ho : u.op = .execute) :
    CycleEffect u (awaitBodyCycle u) := by
  have hs' : (Machine.storeBody u).seq ≠ .idle := by rw [storeBody_seq, hs]; decide
  obtain ⟨-, e⟩ | ⟨-, -, e⟩ | ⟨-, -, e⟩ := awaitBodyCycle_cases u <;> rw [e]
  · exact .storeBody hs ho .validated _ _ (by decide)
  · exact .storeBody hs ho .validated _ _ (by decide)
  · exact .storeBody hs ho _ _ (Machine.storeBody u).lat hs'

theorem CycleEffect.validatedCycle (hs : u.seq = .validated) (ho : u.op = .execute) :
    CycleEffect u (validatedCycle u) := by
  obtain ⟨-, e⟩ | ⟨-, e⟩ := validatedCycle_cases u hs <;> rw [e]
  · exact .waits
  · exact .concludes _ u.rxN (u.opDraws + u.rxN.toNat) ho (.inr hs)

theorem BusyCycle.effect {t : State} (h : BusyCycle u t) : CycleEffect u t := by
  cases h with
  | wait => exact .waits
  | nop => exact .endsNop
  | encode hp => exact .encodeWork hp
  | merge hp => exact .mergeWork hp
  | build hp => exact .builderWork (.inl hp)
  | checksum hp => exact .checksums hp
  | verify hp => exact .verifies hp
  | classify => exact .classifies
  | execute hp => exact .builderWork (.inr hp)
  | frameSent hs ho => exact .frameSentCycle hs ho
  | awaitLen hs ho => exact .awaitLenCycle hs ho
  | awaitBody hs ho => exact .awaitBodyCycle hs ho
  | validated hs ho => exact .validatedCycle hs ho
  | unreachable => exact .nothing

end

/-! ### What no cycle of an operation changes -/

/-- The part of the state that belongs to the host, its requests and its ports. -/
structure HostSide where
  op : Op
  func : BitVec 12
  pcount : BitVec 8
  timeout : Word
  crcExpect : BitVec 16
  slots : Vector Param 15
  ie : Bool
  rejected : Bool
  strayRx : Bool
  ports : Ports
  inputs : List Ports
  rdata : Option Word
  hostDraws : Nat

/-- A state's part of the host. -/
def State.hostSide (s : State) : HostSide :=
  ⟨s.op, s.func, s.pcount, s.timeout, s.crcExpect, s.slots, s.ie, s.rejected, s.strayRx, s.ports, s.inputs, s.rdata,
    s.hostDraws⟩

theorem CycleEffect.hostSide_eq {u t : State} (h : CycleEffect u t) : t.hostSide = u.hostSide := by
  cases h <;> rfl

/-- A cycle of an operation completes it with DONE = 1, or leaves it running and DONE as it is (R128). -/
theorem CycleEffect.done {u t : State} (h : CycleEffect u t) (hb : u.busy = true) :
    (t.busy = false ∧ t.done = true) ∨ (t.busy = true ∧ t.done = u.done) := by
  cases h with
  | nothing | waits => exact .inr ⟨hb, rfl⟩
  | endsNop | raises | produces | checksums | verifies | classifies | concludes => exact .inl ⟨rfl, rfl⟩
  | transmits => exact .inr ⟨rfl, rfl⟩
  | sends q _ _ _ _ _ hq | receives _ _ _ q _ _ _ _ _ hq | passes q _ _ _ hq => exact .inr ⟨(busy_iff _).2 hq, rfl⟩

/-! ### The writers of the result registers -/

/-- CRC_RESULT is CHECKSUM's and VERIFY's (R30). -/
theorem CycleEffect.crcResult {u t : State} (h : CycleEffect u t) (hne : t.crcResult ≠ u.crcResult) :
    u.performing .checksum = true ∨ u.performing .verify = true := by
  cases h with
  | checksums hp => exact .inl hp
  | verifies hp => exact .inr hp
  | _ => exact absurd rfl hne

/-- TX_LEN and TXBUF are the packer's and the builder's (R31, R36). -/
theorem CycleEffect.tx {u t : State} (h : CycleEffect u t) (hne : t.txLen ≠ u.txLen ∨ t.txbuf ≠ u.txbuf) :
    u.performing .encode = true ∨ u.performing .merge = true ∨ u.performing .build = true ∨
      u.performing .execute = true := by
  cases h with
  | raises o _ hp ho =>
    simp only [List.mem_cons, List.not_mem_nil, or_false] at ho
    obtain rfl | rfl | rfl | rfl := ho <;> simp [hp]
  | produces o _ hp ho =>
    simp only [List.mem_cons, List.not_mem_nil, or_false] at ho
    obtain rfl | rfl | rfl := ho <;> simp [hp]
  | transmits _ hp => exact .inr (.inr (.inr hp))
  | _ => exact absurd hne (not_or.2 ⟨not_not.2 rfl, not_not.2 rfl⟩)

/-- RX_COUNT is EXECUTE's, at its completion (R32). -/
theorem CycleEffect.rxCount {u t : State} (h : CycleEffect u t) (hne : t.rxCount ≠ u.rxCount) :
    u.op = .execute ∧ (u.seq = .awaitLen ∨ u.seq = .validated) ∧ t.seq = .idle := by
  cases h with
  | concludes _ _ _ ho hs => exact ⟨ho, hs, rfl⟩
  | _ => exact absurd rfl hne

/-- RXBUF is EXECUTE's, with a byte received in a read state (R37). -/
theorem CycleEffect.rxbuf {u t : State} (h : CycleEffect u t) (hne : t.rxbuf ≠ u.rxbuf) :
    u.op = .execute ∧ (u.seq = .awaitLen ∨ u.seq = .awaitBody) ∧ u.ports.rxValid = true := by
  cases h with
  | receives _ _ _ _ _ _ ho hs hv => exact ⟨ho, hs, hv⟩
  | _ => exact absurd rfl hne

/-- A byte is taken from FRAME_SENT alone, where the peer is ready (R112). -/
theorem CycleEffect.taken {u t : State} (h : CycleEffect u t) (hne : t.taken ≠ u.taken) :
    u.seq = .frameSent ∧ u.ports.txReady = true := by
  cases h with
  | sends _ _ _ _ hs hr => exact ⟨hs, hr⟩
  | _ => exact absurd rfl hne

/-! ### The ports' part of a cycle -/

/-- The ports change RX_COUNT only by a host write of it with BUSY = 0 (R32, R43). -/
theorem portSide_rxCount {s : State} (hne : (portSide s).rxCount ≠ s.rxCount) :
    s.busy = false ∧ s.ports.writes = true ∧ regAt s.ports.busAddr = .rxCount := by
  cases hb : s.busy
  · cases hw : s.ports.writes
    · simp [portSide, hostWrite, hw] at hne
    · rw [portSide_of_writes hw, strayByte_rxCount] at hne
      refine ⟨rfl, rfl, ?_⟩
      cases hr : regAt s.ports.busAddr <;> rw [hr] at hne <;> simp [State.writeReg, whenIdle, hb] at hne ⊢
      split at hne <;> exact hne rfl
  · rw [portSide_busy s hb] at hne
    exact absurd rfl hne

/-- The ports change RXBUF only by a host write of it with BUSY = 0 (R37, R43). -/
theorem portSide_rxbuf {s : State} (hne : (portSide s).rxbuf ≠ s.rxbuf) :
    s.busy = false ∧ s.ports.writes = true ∧ ∃ i, regAt s.ports.busAddr = .rxbuf i := by
  obtain e | ⟨hb, hw, i, hi, -⟩ := portSide_rxbuf_cases s
  · exact absurd e hne
  · exact ⟨hb, hw, i, hi⟩

/-- While BUSY the ports change nothing of the request and no buffer (R43). -/
theorem portSide_latch_request {s : State} (hb : s.busy = true) :
    (portSide s.latch).func = s.func ∧ (portSide s.latch).pcount = s.pcount ∧
      (portSide s.latch).timeout = s.timeout ∧ (portSide s.latch).crcExpect = s.crcExpect ∧
      (portSide s.latch).slots = s.slots ∧ (portSide s.latch).rxCount = s.rxCount ∧
      (portSide s.latch).rxbuf = s.rxbuf := by
  simp [portSide_busy s.latch (by simpa using hb)]

@[simp] theorem portSide_latch_performing (s : State) (o : Op) :
    (portSide s.latch).performing o = s.performing o := by
  simp [State.performing]

@[simp] theorem portSide_latch_offered (s : State) : (portSide s.latch).offered = s.offered := by
  simp [State.offered]

/-- Settles O47: the ports write RX_COUNT and RXBUF alone, and the rest is the writers of a cycle of an operation. -/
theorem resultRegistersHaveFewWriters : Obligations.ResultRegistersHaveFewWriters := by
  unfold Obligations.ResultRegistersHaveFewWriters
  intro s t hr hst
  obtain ⟨hb, hc⟩ | ⟨-, -, rfl⟩ | ⟨-, -, rfl⟩ := step_no_reset s t hr hst
  · obtain ⟨-, -, -, -, -, hcount, hbuf⟩ := portSide_latch_request hb
    have he := hc.effect
    refine ⟨fun h => ?_, fun h => ?_, fun h => .inr ?_, fun h => .inr ?_⟩
    · simpa using he.crcResult (by simpa using h)
    · simpa using he.tx (by simpa using h)
    · simpa using he.rxCount (by rwa [hcount])
    · simpa using he.rxbuf (by rwa [hbuf])
  all_goals
    refine ⟨fun h => absurd (by simp) h, fun h => absurd h (by simp), fun h => .inl ?_, fun h => .inl ?_⟩
    · simpa using portSide_rxCount (s := s.latch) (by simpa using h)
    · simpa using portSide_rxbuf (s := s.latch) (by simpa using h)

/-- Settles O48: neither the ports while BUSY nor a cycle of an operation change a request register. -/
theorem requestRegistersAreFrozen : Obligations.RequestRegistersAreFrozen := by
  unfold Obligations.RequestRegistersAreFrozen
  intro s t hr hb hst
  obtain ⟨-, hc⟩ | ⟨hi, -⟩ | ⟨hi, -⟩ := step_no_reset s t hr hst
  · obtain ⟨hf, hp, ht, hx, hsl, -, -⟩ := portSide_latch_request hb
    have hop : (portSide s.latch).op = s.op := by simp
    have he := hc.effect.hostSide_eq
    exact ⟨(congrArg HostSide.func he).trans hf, (congrArg HostSide.pcount he).trans hp,
      (congrArg HostSide.timeout he).trans ht, (congrArg HostSide.crcExpect he).trans hx,
      (congrArg HostSide.slots he).trans hsl, fun _ => (congrArg HostSide.op he).trans hop⟩
  · simp [hb] at hi
  · simp [hb] at hi

/-! ### The bytes the peer takes -/

theorem txValid_iff (s : State) : s.txValid = true ↔ s.seq = .frameSent := by simp [State.txValid]

/-- Where the peer takes a byte it is the byte offered (R112). -/
theorem frameSentCycle_taken {s : State} (hs : s.seq = .frameSent) (hr : s.ports.txReady = true) :
    (frameSentCycle s).taken = s.taken ++ [s.offered] := by
  by_cases hl : (s.txIdx + 1).setWidth 8 = s.txLen
  · rw [frameSentCycle_last hs hr hl]
  · rw [frameSentCycle_next hs hr hl]

/-- Settles O49: FRAME_SENT with a ready peer hands over the byte offered, and no other cycle hands one over. -/
theorem bytesLeaveOnlyInFrameSent : Obligations.BytesLeaveOnlyInFrameSent := by
  unfold Obligations.BytesLeaveOnlyInFrameSent
  refine ⟨fun s => ⟨txValid_iff s, fun h => ⟨by simp [State.txData, h], fun b => offered_of_byte?⟩⟩, ?_⟩
  intro s t hr ho hst
  refine ⟨fun ⟨hs, hready⟩ => ?_, fun hn => ?_⟩
  · have hs' : (portSide s.latch).seq = .frameSent := by simpa using hs
    rw [step_execute s hr ((busy_iff s).2 (by simp [hs])) (ho hs),
      executeCycle_frameSent hs' (by simpa using ho hs)] at hst
    cases hst
    simpa using frameSentCycle_taken hs' (by simpa using hready)
  · obtain ⟨-, hc⟩ | ⟨-, -, rfl⟩ | ⟨-, -, rfl⟩ := step_no_reset s t hr hst
    · by_contra hne
      exact hn (by simpa using hc.effect.taken (by simpa using hne))
    · simp
    · simp

/-! ### DONE, and events that meet -/

theorem writeReg_done (s : State) (r : HostReg) (v : Word) :
    (s.writeReg r v).done = (s.done && !(decide (r = .status) && v.getLsbD 1)) := by
  cases hb : s.busy
  · cases r
    case status => simp only [State.writeReg]; split <;> simp_all
    all_goals simp [State.writeReg, whenIdle, hb]
  · rw [writeReg_busy _ _ _ hb]

/-- The ports clear DONE by a W1C write of STATUS, and do nothing else to it (R25). -/
theorem portSide_done (s : State) :
    (portSide s).done = (s.done && !(s.ports.writes && decide (regAt s.ports.busAddr = .status) &&
      s.ports.busWdata.getLsbD 1)) := by
  cases hw : s.ports.writes
  · simp [portSide, hostWrite, hw]
  · simp [portSide_of_writes hw, writeReg_done]

/-- What a step without reset does to DONE and BUSY (R42, R128): a completion sets DONE, an acceptance clears it, and else
only the ports touch it. -/
theorem step_done (s t : State) (hr : s.latch.ports.rst = false) (h : step s = .next t) :
    (s.busy = true ∧ t.busy = false ∧ t.done = true) ∨
    (s.busy = false ∧ s.latch.ports.writesCmd = true ∧ t.busy = true ∧ t.done = false) ∨
    (t.busy = s.busy ∧ t.done = (portSide s.latch).done) := by
  obtain ⟨hb, hc⟩ | ⟨hb, hcmd, rfl⟩ | ⟨hb, -, rfl⟩ := step_no_reset s t hr h
  · obtain ⟨hi, hd⟩ | ⟨hi, hd⟩ := hc.effect.done (by simpa using hb)
    · exact .inl ⟨hb, hi, hd⟩
    · exact .inr (.inr ⟨hi.trans hb.symm, hd⟩)
  · exact .inr (.inl ⟨hb, hcmd, rfl, rfl⟩)
  · exact .inr (.inr ⟨by simp, rfl⟩)

/-- Settles O51, by what a step does to DONE and BUSY. -/
theorem doneAndInterrupt : Obligations.DoneAndInterrupt := by
  unfold Obligations.DoneAndInterrupt
  refine ⟨fun s => by simp [State.irq], fun s t hr hst => ?_⟩
  obtain ⟨hb, hb', hd⟩ | ⟨hb, hc, hb', hd⟩ | ⟨hb, hd⟩ := step_done s t hr hst
  · simp [hb, hb', hd, State.irq]
  · simp [hb, hb', hd, hc, State.irq]
  · rw [portSide_done, latch_done] at hd
    refine ⟨fun h h' => ?_, fun h h' => ?_, fun h h' => ?_, fun h h' => .inl ?_⟩
    · simp [hb, h] at h'
    · simp [hb, h] at h'
    · simp [hd, h] at h'
    · simpa [hd, h, and_assoc] using h'

/-- A byte in AWAIT_LEN is stored and the operation goes on, in whatever cycle of the window it comes (R110, R113). -/
theorem awaitLenCycle_stores {s : State} (hv : s.ports.rxValid = true) :
    (awaitLenCycle s).busy = true ∧ Memory.byte? (awaitLenCycle s).rxbuf 0 = some s.ports.rxData := by
  by_cases h5 : s.ports.rxData.toNat < 5
  · rw [awaitLenCycle_short hv h5]
    exact ⟨rfl, by simp [enterValidated, Memory.byte?_write]⟩
  · rw [awaitLenCycle_long hv h5]
    exact ⟨rfl, by simp [Memory.byte?_write]⟩

/-- Settles O53: each time the later of the two events in the cycle's order decides. -/
theorem eventsThatMeet : Obligations.EventsThatMeet := by
  unfold Obligations.EventsThatMeet
  intro s t hr hst
  refine ⟨fun ho hs _ hv => ?_, fun hb hb' => ?_, fun hb hc => ?_, fun hb hb' hc => ?_⟩
  · have hs' : (portSide s.latch).seq = .awaitLen := by simpa using hs
    rw [step_execute s hr ((busy_iff s).2 (by simp [hs])) ho, executeCycle_awaitLen hs' (by simpa using ho)] at hst
    cases hst
    simpa using awaitLenCycle_stores (s := portSide s.latch) (by simpa using hv)
  · obtain ⟨-, -, hd⟩ | ⟨hi, -⟩ | ⟨he, -⟩ := step_done s t hr hst
    · exact hd
    · simp [hb] at hi
    · simp [hb, hb'] at he
  · rw [step_idle_cmd s hr hb hc] at hst
    cases hst
    rfl
  · obtain ⟨hw, ha⟩ := Ports.writes_of_writesCmd hc
    obtain ⟨-, hcyc⟩ | ⟨hi, -⟩ | ⟨hi, -⟩ := step_no_reset s t hr hst
    · refine (congrArg HostSide.rejected hcyc.effect.hostSide_eq).trans ?_
      show (portSide s.latch).rejected = true
      simp [portSide_busy s.latch (by simpa using hb), hw, ha]
    · simp [hb] at hi
    · simp [hb] at hi

/-- Settles O52: in IDLE without a CMD write only the ports act, and they write no result but RX_COUNT and RXBUF. -/
theorem resultsStayUntilTheNextCommand : Obligations.ResultsStayUntilTheNextCommand := by
  unfold Obligations.ResultsStayUntilTheNextCommand
  intro s t hr hb hc hst
  rw [step_idle_quiet s hr hb hc] at hst
  cases hst
  refine ⟨by simpa using hb, by simp, by simp, by simp, by simp, by simp, by simp, by simp, by simp, by simp,
    fun hn => ?_, fun i hn => ?_⟩
  · by_contra hne
    obtain ⟨-, hw, ha⟩ := portSide_rxCount (s := s.latch) (by simpa using hne)
    exact hn ⟨hw, ha⟩
  · obtain e | ⟨-, hw, j, ha, e⟩ := portSide_rxbuf_cases s.latch <;> rw [e]
    · simp
    · have hij : i ≠ j := fun h => hn ⟨hw, h ▸ ha⟩
      simp [Memory.byte?_write, hij]

/-! ### The cycles of COMPUTE -/

/-- A cycle of COMPUTE before the operation's own only counts `lat` down, whatever the ports do short of reset. -/
theorem step_compute_wait {s : State} {k : Nat} (hr : s.latch.ports.rst = false) (hs : s.seq = .compute)
    (hl : s.lat = k + 1) : step s = .next (waitCycle (portSide s.latch)) := by
  rw [step_busy s hr ((busy_iff s).2 (by simp [hs])), show s.op = (portSide s.latch).op by simp]
  exact exec_instr_wait _ (by simpa using hs) (by simp [hl])

/-- Settles O54, by induction on the cycles left: each counts `lat` down by one. -/
theorem computeLastsItsLatency : Obligations.ComputeLastsItsLatency := by
  unfold Obligations.ComputeLastsItsLatency
  intro k
  induction k with
  | zero => exact fun s hs hl _ => ⟨s, rfl, (performing_iff s _).2 ⟨hs, rfl, hl⟩, rfl, rfl, rfl, rfl, rfl, rfl, rfl⟩
  | succ k ih =>
    intro s hs hl hi
    have hr : s.latch.ports.rst = false := latch_ports_of_forall_take (P := (·.rst = false)) rfl hi
    obtain ⟨hf, hp, ht, -, hsl, hcount, hrx⟩ := portSide_latch_request ((busy_iff s).2 (by simp [hs]))
    obtain ⟨t, hrun, hperf, ef, ep, es, et, ec, erx, etx⟩ :=
      ih (waitCycle (portSide s.latch)) (by simpa using hs) (by simp [hl]) (by simpa using forall_take_tail hi)
    refine ⟨t, (run_succ_of_step k (step_compute_wait hr hs hl)).trans hrun, by simpa using hperf, ef.trans hf,
      ep.trans hp, es.trans hsl, et.trans ht, ec.trans hcount, erx.trans hrx, etx.trans (by simp)⟩

end Sys2Proof.Machine
end

section
/-! PROOFS. The STATUS word and the host's register map: where each register stands, what a write reaches, and what a
read returns. -/

namespace Sys2Proof.Machine

/-! ### The STATUS word -/

/-- The slices of the STATUS word, from the low end up (R25). Each is found by dropping the fields below it. -/
theorem statusWord_slices (s : State) :
    s.statusWord.extractLsb' 0 1 = bit s.busy ∧ s.statusWord.extractLsb' 1 1 = bit s.done ∧
    s.statusWord.extractLsb' 2 1 = bit s.rejected ∧ s.statusWord.extractLsb' 3 1 = bit s.verifyOk ∧
    s.statusWord.extractLsb' 4 1 = bit s.strayRx ∧ s.statusWord.extractLsb' 5 3 = s.seq.code ∧
    s.statusWord.extractLsb' 8 3 = s.outcome.code ∧ s.statusWord.extractLsb' 11 1 = 0#1 ∧
    s.statusWord.extractLsb' 12 2 = s.preErr.code ∧ s.statusWord.extractLsb' 14 2 = 0#2 ∧
    s.statusWord.extractLsb' 16 3 = s.failCause.code ∧ s.statusWord.extractLsb' 19 1 = 0#1 ∧
    s.statusWord.extractLsb' 20 4 = s.errSlot ∧ s.statusWord.extractLsb' 24 8 = s.result := by
  simp (disch := decide) only [State.statusWord, Nat.reduceSub, and_self,
    BitVec.extractLsb'_append_eq_of_le (v := 31) (w := 1), BitVec.extractLsb'_append_eq_of_le (v := 30) (w := 1),
    BitVec.extractLsb'_append_eq_of_le (v := 29) (w := 1), BitVec.extractLsb'_append_eq_of_le (v := 28) (w := 1),
    BitVec.extractLsb'_append_eq_of_le (v := 27) (w := 1), BitVec.extractLsb'_append_eq_of_le (v := 24) (w := 3),
    BitVec.extractLsb'_append_eq_of_le (v := 21) (w := 3), BitVec.extractLsb'_append_eq_of_le (v := 20) (w := 1),
    BitVec.extractLsb'_append_eq_of_le (v := 18) (w := 2), BitVec.extractLsb'_append_eq_of_le (v := 16) (w := 2),
    BitVec.extractLsb'_append_eq_of_le (v := 13) (w := 3), BitVec.extractLsb'_append_eq_of_le (v := 12) (w := 1),
    BitVec.extractLsb'_append_eq_right (w := 31), BitVec.extractLsb'_append_eq_right (w := 30),
    BitVec.extractLsb'_append_eq_right (w := 29), BitVec.extractLsb'_append_eq_right (w := 28),
    BitVec.extractLsb'_append_eq_right (w := 27), BitVec.extractLsb'_append_eq_right (w := 24),
    BitVec.extractLsb'_append_eq_right (w := 21), BitVec.extractLsb'_append_eq_right (w := 20),
    BitVec.extractLsb'_append_eq_right (w := 18), BitVec.extractLsb'_append_eq_right (w := 16),
    BitVec.extractLsb'_append_eq_right (w := 13), BitVec.extractLsb'_append_eq_right (w := 12),
    BitVec.extractLsb'_append_eq_right (w := 8), BitVec.extractLsb'_append_eq_left (w := 8)]

/-- A bit is the slice of it alone. -/
theorem getLsbD_of_slice {w : Nat} {x : BitVec w} {i : Nat} {b : Bool} (h : x.extractLsb' i 1 = bit b) :
    x.getLsbD i = b := by
  have := congrArg (fun v => v.getLsbD 0) h
  simpa [bit] using this

/-- Settles O39, from the slices of the word. -/
theorem statusFields : Obligations.StatusFields := by
  unfold Obligations.StatusFields
  intro s
  obtain ⟨h0, h1, h2, h3, h4, h5, h8, h11, h12, h14, h16, h19, h20, h24⟩ := statusWord_slices s
  exact ⟨getLsbD_of_slice h0, getLsbD_of_slice h1, getLsbD_of_slice h2, getLsbD_of_slice h3, getLsbD_of_slice h4, h5, h8,
    getLsbD_of_slice (b := false) h11, h12, h14, h16, getLsbD_of_slice (b := false) h19, h20, h24⟩

/-- A stray byte sets bit 4 of the STATUS word and no other (R25, R45). -/
theorem statusWord_strayRx (s : State) (b : Bool) :
    { s with strayRx := s.strayRx || b }.statusWord = s.statusWord ||| (if b then 0x00000010 else 0x00000000) := by
  have h16 : (0x00000010 : Word) = 0#27 ++ 1#1 ++ 0#1 ++ 0#1 ++ 0#1 ++ 0#1 := by decide
  have hbit : bit s.strayRx ||| 1#1 = bit true := by cases s.strayRx <;> rfl
  cases b
  · simp
  · rw [if_pos rfl, h16, Bool.or_true, State.statusWord, State.statusWord]
    simp only [BitVec.or_append (w := 31) (v := 1), BitVec.or_append (w := 30) (v := 1),
      BitVec.or_append (w := 29) (v := 1), BitVec.or_append (w := 28) (v := 1), BitVec.or_append (w := 27) (v := 1),
      BitVec.or_zero, hbit]
    rfl

/-! ### Where the registers stand -/

/-- An address without its bits [1:0] (R21). -/
theorem toNat_and_offsetMask (a : BitVec 12) : (a &&& 0xFFC#12).toNat = a.toNat / 4 * 4 := by
  have h : a &&& 0xFFC#12 = (a >>> 2) <<< 2 := by
    apply BitVec.eq_of_getLsbD_eq
    intro i hi
    interval_cases i <;> simp
  have ha := a.isLt
  rw [h, BitVec.toNat_shiftLeft, BitVec.toNat_ushiftRight, Nat.shiftRight_eq_div_pow, Nat.shiftLeft_eq]
  omega

/-- Behind the registers of their own come the slots and the two buffers (R21). -/
theorem regAt_of_ge {a : BitVec 12} (h : 0x028 ≤ a.toNat) :
    regAt a =
      if 0x040 ≤ a.toNat / 4 * 4 ∧ a.toNat / 4 * 4 < 0x0B8 then
        if (a.toNat / 4 * 4 - 0x040) % 8 = 0 then .ptype ((a.toNat / 4 * 4 - 0x040) / 8)
        else .pvalue ((a.toNat / 4 * 4 - 0x040) / 8)
      else if 0x400 ≤ a.toNat / 4 * 4 ∧ a.toNat / 4 * 4 < 0x524 then .txbuf ((a.toNat / 4 * 4 - 0x400) / 4)
      else if 0x800 ≤ a.toNat / 4 * 4 ∧ a.toNat / 4 * 4 < 0xBFC then .rxbuf ((a.toNat / 4 * 4 - 0x800) / 4)
      else .reserved := by
  unfold regAt
  dsimp only
  rw [toNat_and_offsetMask, if_neg (by omega), if_neg (by omega), if_neg (by omega), if_neg (by omega),
    if_neg (by omega), if_neg (by omega), if_neg (by omega), if_neg (by omega), if_neg (by omega), if_neg (by omega)]

/-- The ten registers below the first reserved range all exist (R21). -/
theorem regAt_of_lt {a : BitVec 12} (h : a.toNat < 0x028) :
    regAt a ∈ [.cmd, .ctrl, .status, .func, .pcount, .timeout, .crcExpect, .crcResult, .txLen, .rxCount] := by
  have h4 : a.toNat / 4 < 10 := by omega
  unfold regAt
  rw [toNat_and_offsetMask]
  interval_cases a.toNat / 4 <;> decide

theorem regAt_ptype {a : BitVec 12} {i : Nat} (hi : i < 15) (h : a.toNat / 4 * 4 = 0x040 + 8 * i) :
    regAt a = .ptype i := by
  rw [regAt_of_ge (by omega), h, if_pos (by omega), if_pos (by omega)]; congr 1; omega

theorem regAt_pvalue {a : BitVec 12} {i : Nat} (hi : i < 15) (h : a.toNat / 4 * 4 = 0x044 + 8 * i) :
    regAt a = .pvalue i := by
  rw [regAt_of_ge (by omega), h, if_pos (by omega), if_neg (by omega)]; congr 1; omega

theorem regAt_txbuf {a : BitVec 12} {i : Nat} (hi : i < 73) (h : a.toNat / 4 * 4 = 0x400 + 4 * i) :
    regAt a = .txbuf i := by
  rw [regAt_of_ge (by omega), h, if_neg (by omega), if_pos (by omega)]; congr 1; omega

theorem regAt_rxbuf {a : BitVec 12} {i : Nat} (hi : i < 255) (h : a.toNat / 4 * 4 = 0x800 + 4 * i) :
    regAt a = .rxbuf i := by
  rw [regAt_of_ge (by omega), h, if_neg (by omega), if_neg (by omega), if_pos (by omega)]; congr 1; omega

/-- What an address names exists in the map, or is reserved (R21, R22). -/
theorem regAt_mapped {a : BitVec 12} (h : regAt a ≠ .reserved) : (regAt a).mapped = true := by
  by_cases ha : a.toNat < 0x028
  · have hr := regAt_of_lt ha
    simp only [List.mem_cons, List.not_mem_nil, or_false] at hr
    obtain e | e | e | e | e | e | e | e | e | e := hr <;> rw [e] <;> rfl
  · rw [regAt_of_ge (by omega)] at h ⊢
    split_ifs at h ⊢ with h1 h2 h3 h4 <;>
      simp only [HostReg.mapped, Config.nSlots, Config.txbufSize, Config.rxbufSize, decide_eq_true_eq]
    · omega
    · omega
    · omega
    · omega
    · exact absurd rfl h

theorem regAt_reserved_iff (a : BitVec 12) :
    regAt a = .reserved ↔
      (0x028 ≤ a.toNat ∧ a.toNat < 0x040) ∨ (0x0B8 ≤ a.toNat ∧ a.toNat < 0x400) ∨
        (0x524 ≤ a.toNat ∧ a.toNat < 0x800) ∨ 0xBFC ≤ a.toNat := by
  by_cases ha : a.toNat < 0x028
  · have hr : regAt a ≠ .reserved := fun e => by simpa [e] using regAt_of_lt ha
    exact iff_of_false hr (by omega)
  · rw [regAt_of_ge (by omega)]
    split_ifs with h1 h2 h3 h4 <;> simp only [false_iff, true_iff] <;> omega

/-- Settles O37, register by register, and by the ranges an address can lie in. -/
theorem registerMap : Obligations.RegisterMap := by
  unfold Obligations.RegisterMap
  refine ⟨fun r hr => ?_, fun a => by simp [regAt, BitVec.and_assoc], regAt_reserved_iff⟩
  cases r <;>
    simp only [HostReg.mapped, Config.nSlots, Config.txbufSize, Config.rxbufSize, decide_eq_true_eq,
      Bool.false_eq_true] at hr
  case ptype i => exact regAt_ptype hr (by simp [offsetOf]; omega)
  case pvalue i => exact regAt_pvalue hr (by simp [offsetOf]; omega)
  case txbuf i => exact regAt_txbuf hr (by simp [offsetOf]; omega)
  case rxbuf i => exact regAt_rxbuf hr (by simp [offsetOf]; omega)
  all_goals decide

end Sys2Proof.Machine
end

section
/-! PROOFS. What the host's accesses and a stray byte do to a cycle: a write reaches its register and nothing else, a read
changes no state of the block, and a byte outside the read states sets its flag alone. Two cycles that differ in their bus
inputs only are compared by `onBus`. -/

namespace Sys2Proof.Machine

/-! ### A register reads back what was written -/

/-- The low bits of a word, read as a word (R24-R37). -/
theorem setWidth_extract_low {n : Nat} (v m : Word) (hm : ∀ i < 32, m.getLsbD i = decide (i < n)) :
    (v.extractLsb' 0 n).setWidth 32 = v &&& m := by
  apply BitVec.eq_of_getLsbD_eq
  intro i hi
  simp only [BitVec.getLsbD_setWidth, BitVec.getLsbD_extractLsb', BitVec.getLsbD_and, hm i hi, hi, Nat.zero_add,
    decide_true, Bool.true_and]
  exact Bool.and_comm _ _

theorem bit_getLsbD_zero (v : Word) : (bit (v.getLsbD 0)).setWidth 32 = v &&& 0x00000001 := by
  rw [← setWidth_extract_low (n := 1) v _ (by decide)]
  congr 1
  apply BitVec.eq_of_getLsbD_eq
  intro i hi
  obtain rfl : i = 0 := by omega
  simp [bit]

theorem resultWord_idle {s : State} (h : s.busy = false) (w : Word) : s.resultWord w = w := by
  simp [State.resultWord, h]

/-- With BUSY = 0 a byte of a buffer reads as it was written (R36, R37). -/
theorem bufferWord_idle {s : State} (h : s.busy = false) {m : Memory} {i : Nat} {b : Byte}
    (hb : Memory.byte? m i = some b) : s.bufferWord m i = b.setWidth 32 := by
  simp [State.bufferWord, resultWord_idle h, hb]

@[simp] theorem writeReg_busy_eq (s : State) (r : HostReg) (v : Word) : (s.writeReg r v).busy = s.busy := by
  simp [State.busy]

theorem whenIdle_idle {s : State} (h : s.busy = false) (t : State) : whenIdle s t = t := by simp [whenIdle, h]

/-- The written register (R24, R26-R29, R32, R34, R35, R37). -/
theorem readReg_writeReg_same {s : State} {r : HostReg} (v : Word) (hb : s.busy = false) (hr : r.readWrite = true) :
    (s.writeReg r v).readReg r = v &&& r.fieldMask := by
  have hb' : (s.writeReg r v).busy = false := by simpa using hb
  have h8 : (v.extractLsb' 0 8).setWidth 32 = v &&& 0x000000FF := setWidth_extract_low v _ (by decide)
  have h12 : (v.extractLsb' 0 12).setWidth 32 = v &&& 0x00000FFF := setWidth_extract_low v _ (by decide)
  have h16 : (v.extractLsb' 0 16).setWidth 32 = v &&& 0x0000FFFF := setWidth_extract_low v _ (by decide)
  have h32 : v = v &&& 0xFFFFFFFF := BitVec.and_allOnes.symm
  cases r <;> simp only [HostReg.readWrite, decide_eq_true_eq, Bool.false_eq_true] at hr
  case ctrl => exact bit_getLsbD_zero v
  case rxCount =>
    rw [State.readReg, resultWord_idle hb']
    simpa only [State.writeReg, whenIdle_idle hb, HostReg.fieldMask] using h8
  case rxbuf i =>
    have hbyte : Memory.byte? (s.writeReg (.rxbuf i) v).rxbuf i = some (v.extractLsb' 0 8) := by
      simp [State.writeReg, whenIdle_idle hb, Memory.byte?_write, hr]
    rw [State.readReg, bufferWord_idle hb' hbyte]
    exact h8
  all_goals simp only [State.writeReg, whenIdle_idle hb, State.readReg, HostReg.fieldMask]
  case func => exact h12
  case pcount => exact h8
  case timeout => exact h32
  case crcExpect => exact h16
  case ptype i => rw [slot_setSlot _ _ _ _ hr, if_pos rfl]; exact h8
  case pvalue i => rw [slot_setSlot _ _ _ _ hr, if_pos rfl]; exact h32

/-- Every other register (R18, R37). -/
theorem readReg_writeReg_other {s : State} {r r' : HostReg} (v : Word) (hb : s.busy = false) (hr : r.readWrite = true)
    (hne : r' ≠ r) : (s.writeReg r v).readReg r' = s.readReg r' := by
  cases r <;> simp only [HostReg.readWrite, decide_eq_true_eq, Bool.false_eq_true] at hr <;>
    simp only [State.writeReg, whenIdle_idle hb]
  case ctrl => cases r' with | ctrl => exact absurd rfl hne | _ => rfl
  case func => cases r' with | func => exact absurd rfl hne | _ => rfl
  case pcount => cases r' with | pcount => exact absurd rfl hne | _ => rfl
  case timeout => cases r' with | timeout => exact absurd rfl hne | _ => rfl
  case crcExpect => cases r' with | crcExpect => exact absurd rfl hne | _ => rfl
  case rxCount => cases r' with | rxCount => exact absurd rfl hne | _ => rfl
  case ptype i =>
    cases r' with
    | ptype j =>
      have hji : j ≠ i := fun h => hne (h ▸ rfl)
      simp only [State.readReg, slot_setSlot _ _ _ _ hr, if_neg hji]
    | pvalue j =>
      simp only [State.readReg, slot_setSlot _ _ _ _ hr]
      split <;> simp [*]
    | _ => rfl
  case pvalue i =>
    cases r' with
    | pvalue j =>
      have hji : j ≠ i := fun h => hne (h ▸ rfl)
      simp only [State.readReg, slot_setSlot _ _ _ _ hr, if_neg hji]
    | ptype j =>
      simp only [State.readReg, slot_setSlot _ _ _ _ hr]
      split <;> simp [*]
    | _ => rfl
  case rxbuf i =>
    cases r' with
    | rxbuf j =>
      have hji : j ≠ i := fun h => hne (h ▸ rfl)
      simp [State.readReg, State.bufferWord, State.resultWord, State.busy, Memory.byte?_write, hji]
    | _ => rfl

/-! ### Two cycles that differ in their bus inputs -/

theorem latch_of_cons {s : State} {p : Ports} {rest : List Ports} (h : s.inputs = p :: rest) :
    s.latch = { s with ports := p, inputs := rest, rdata := none, idleDraws := s.idleDraws + 1 } := by
  simp [State.latch, h]

/-- The state with other port inputs in this cycle. -/
def State.withPorts (s : State) (q : Ports) : State := { s with ports := q }

/-- With other inputs of the cycle. -/
theorem latch_with_inputs {s : State} {p : Ports} {rest : List Ports} (h : s.inputs = p :: rest) (q : Ports) :
    { s with inputs := q :: rest }.latch = s.latch.withPorts q := by
  rw [latch_of_cons h]; rfl

/-- Outside the read states EXECUTE's cycle looks at no received byte. -/
theorem executeCycle_onBus_not_reading {u : State} {p : Ports} (r : Option Word) (n : Nat) (x : Bool)
    (hi : u.seq ≠ .idle) (hl : u.seq ≠ .awaitLen) (hb : u.seq ≠ .awaitBody) (htx : p.txReady = u.ports.txReady) :
    executeCycle (onBus p r n x u) = onBus p r n x (executeCycle u) := by
  unfold executeCycle
  rw [show (onBus p r n x u).seq = u.seq from rfl, show (onBus p r n x u).op = u.op from rfl]
  cases hs : u.seq
  case idle => exact absurd hs hi
  case compute => exact localCycle_onBus _ _ _ _ _ _ _ hi (builderWork_onBus ..)
  case frameSent => simp only; split <;> [exact frameSentCycle_onBus r n x htx; rfl]
  case awaitLen => exact absurd hs hl
  case awaitBody => exact absurd hs hb
  case validated => simp only; split <;> [exact validatedCycle_onBus ..; rfl]

/-- Outside the read states no cycle of an operation looks at the received byte. -/
theorem exec_onBus_not_reading {u : State} {p : Ports} (r : Option Word) (n : Nat) (x : Bool) (o : Op)
    (hi : u.seq ≠ .idle) (hl : u.seq ≠ .awaitLen) (hb : u.seq ≠ .awaitBody) (htx : p.txReady = u.ports.txReady) :
    ∃ t, exec o.instr u = .next t ∧ exec o.instr (onBus p r n x u) = .next (onBus p r n x t) := by
  have hlocal : ∀ o act, act (onBus p r n x u) = onBus p r n x (act u) →
      (.next (localCycle o act (onBus p r n x u)) : Host.Outcome State Fault Refusal) =
        .next (onBus p r n x (localCycle o act u)) :=
    fun o act h => congrArg _ (localCycle_onBus p r n x u o act hi h)
  cases o with
  | nop => exact ⟨_, rfl, hlocal _ completeNone rfl⟩
  | encode => exact ⟨_, rfl, hlocal _ _ (encodeWork_onBus ..)⟩
  | merge => exact ⟨_, rfl, hlocal _ _ (mergeWork_onBus ..)⟩
  | build => exact ⟨_, rfl, hlocal _ _ (builderWork_onBus ..)⟩
  | checksum => exact ⟨_, rfl, hlocal _ checksumWork rfl⟩
  | verify => exact ⟨_, rfl, hlocal _ verifyWork rfl⟩
  | classify => exact ⟨_, rfl, hlocal _ classifyWork rfl⟩
  | execute =>
    refine ⟨_, rfl, ?_⟩
    rw [← executeCycle_onBus_not_reading r n x hi hl hb htx]
    rfl

/-- While BUSY a cycle looks at no bus input, and at the received byte in the read states alone. -/
theorem exec_onBus_reading {u : State} {p : Ports} (r : Option Word) (n : Nat) (x : Bool) (o : Op)
    (hi : u.seq ≠ .idle) (htx : p.txReady = u.ports.txReady)
    (hrx : u.seq = .awaitLen ∨ u.seq = .awaitBody → p.rxValid = u.ports.rxValid ∧ p.rxData = u.ports.rxData) :
    ∃ t, exec o.instr u = .next t ∧ exec o.instr (onBus p r n x u) = .next (onBus p r n x t) := by
  by_cases hread : u.seq = .awaitLen ∨ u.seq = .awaitBody
  · obtain ⟨hv, hd⟩ := hrx hread
    exact exec_onBus r n x htx hv hd o hi
  · obtain ⟨hl, hb⟩ := not_or.1 hread
    exact exec_onBus_not_reading r n x o hi hl hb htx

/-- Two cycles without reset and without an acceptance, whose ports' parts differ by `onBus`, differ by it at the end:
what the peer does is the same in both, and nothing of the rest decides. -/
theorem step_onBus {s : State} {p q : Ports} {rest : List Ports} (hin : s.inputs = p :: rest) (hp : p.rst = false)
    (hq : q.rst = false) (hcmd : s.busy = false → p.writesCmd = false ∧ q.writesCmd = false)
    (htx : p.txReady = q.txReady)
    (hrx : s.seq = .awaitLen ∨ s.seq = .awaitBody → p.rxValid = q.rxValid ∧ p.rxData = q.rxData)
    {r : Option Word} {n : Nat} {x : Bool}
    (hport : portSide s.latch = onBus p r n x (portSide (s.latch.withPorts q))) :
    ∃ u, step { s with inputs := q :: rest } = .next u ∧ step s = .next (onBus p r n x u) ∧
      u.strayRx = (portSide (s.latch.withPorts q)).strayRx ∧ u.rdata = (portSide (s.latch.withPorts q)).rdata ∧
      u.hostDraws = (portSide (s.latch.withPorts q)).hostDraws := by
  have hlatch := latch_with_inputs hin q
  have hpl : s.latch.ports = p := by rw [latch_of_cons hin]
  have hrs : s.latch.ports.rst = false := by rwa [hpl]
  have hrs' : ({ s with inputs := q :: rest } : State).latch.ports.rst = false := by rw [hlatch]; exact hq
  cases hb : s.busy
  · obtain ⟨hcp, hcq⟩ := hcmd hb
    rw [step_idle_quiet s hrs hb (by rwa [hpl]), step_idle_quiet _ hrs' (by exact hb) (by rw [hlatch]; exact hcq), hlatch,
      hport]
    exact ⟨_, rfl, rfl, rfl, rfl, rfl⟩
  · have hbu : (portSide (s.latch.withPorts q)).busy = true := by simpa [State.busy, State.withPorts] using hb
    obtain ⟨u, hu, hu'⟩ := exec_onBus_reading (u := portSide (s.latch.withPorts q)) (p := p) r n x s.op
      ((busy_iff _).1 hbu) (by simpa [State.withPorts] using htx) (by simpa [State.withPorts] using hrx)
    rw [step_busy s hrs hb, step_busy _ hrs' (by exact hb), hlatch, hport]
    have hop : s.op = (portSide (s.latch.withPorts q)).op := by simp [State.withPorts]
    have hside := (exec_busy _ u hbu (hop ▸ hu)).effect.hostSide_eq
    exact ⟨u, hu, hu', congrArg HostSide.strayRx hside, congrArg HostSide.rdata hside, congrArg HostSide.hostDraws hside⟩

/-! ### A cycle with reset -/

theorem peerTakes_taken (s : State) :
    (peerTakes s).taken = if s.txValid && s.ports.txReady then s.taken ++ [s.offered] else s.taken := by
  unfold peerTakes; split <;> rfl

theorem peerTakes_opDraws (s : State) :
    (peerTakes s).opDraws = if s.txValid && s.ports.txReady then s.opDraws + 1 else s.opDraws := by
  unfold peerTakes; split <;> rfl

/-- A reset cycle looks at the bus only for what a read returns. -/
theorem resetCycle_with_ports (c : State) (q : Ports) (htx : c.ports.txReady = q.txReady) :
    resetCycle c = { resetCycle (c.withPorts q) with
      ports := c.ports, rdata := (resetCycle c).rdata, hostDraws := (resetCycle c).hostDraws } := by
  have ht : (peerTakes (c.withPorts q)).taken = (peerTakes c).taken := by
    rw [peerTakes_taken, peerTakes_taken, htx]; rfl
  have hd : (peerTakes (c.withPorts q)).opDraws = (peerTakes c).opDraws := by
    rw [peerTakes_opDraws, peerTakes_opDraws, htx]; rfl
  simp only [resetCycle, ht, hd]; rfl

/-! ### A host read -/

theorem Ports.writes_of_reads {p : Ports} (h : p.reads = true) : p.writes = false := by
  simp_all [Ports.reads, Ports.writes]

theorem Ports.writesCmd_of_not_writes {p : Ports} (h : p.writes = false) : p.writesCmd = false := by
  simp [Ports.writesCmd, h]

/-- A cycle without a host access: the ports discard a stray byte and do no more. -/
theorem portSide_of_not_selected {s : State} (h : s.ports.busSel = false) : portSide s = strayByte s := by
  simp [portSide, hostRead, hostWrite, Ports.reads, Ports.writes, h]

theorem portSide_of_reads {s : State} (h : s.ports.reads = true) :
    portSide s = strayByte
      { s with rdata := some (s.readReg (regAt s.ports.busAddr)), hostDraws := s.hostDraws + 1 } := by
  simp [portSide, hostRead, hostWrite, h, Ports.writes_of_reads h]

/-- Settles O41: with the read left out the ports' part differs in the word read and the count of host draws alone, and no
operation looks at those. -/
theorem hostReadsChangeNothing : Obligations.HostReadsChangeNothing := by
  unfold Obligations.HostReadsChangeNothing
  refine ⟨fun s p rest hin hreads => ?_, fun s => ⟨rfl, rfl, by cases h : s.ie <;> simp [State.readReg, h, bit], rfl, rfl,
    rfl, rfl, rfl, fun _ _ => ⟨rfl, rfl⟩, fun hb => ⟨resultWord_idle hb _, resultWord_idle hb _, resultWord_idle hb _,
      fun _ _ => bufferWord_idle hb, fun _ _ => bufferWord_idle hb⟩⟩⟩
  have hpl : s.latch.ports = p := by rw [latch_of_cons hin]
  have hlatch := latch_with_inputs hin { p with busSel := false }
  obtain hr | hr := Bool.eq_false_or_eq_true p.rst
  · refine ⟨_, _, step_reset s (by rwa [hpl]), step_reset _ (by rw [hlatch]; exact hr), ?_, by simp [hr]⟩
    rw [hlatch, resetCycle_with_ports s.latch { p with busSel := false } (by rw [hpl]), hpl]
  · have hport : portSide s.latch = onBus p (some (s.latch.readReg (regAt p.busAddr))) (s.hostDraws + 1)
        (portSide (s.latch.withPorts { p with busSel := false })).strayRx
        (portSide (s.latch.withPorts { p with busSel := false })) := by
      rw [portSide_of_reads (by rwa [hpl]), portSide_of_not_selected rfl, strayByte_eq, strayByte_eq, hpl]
      simp [onBus, State.withPorts]
    obtain ⟨u, hu, hs, hx, -, -⟩ := step_onBus (q := { p with busSel := false }) hin hr hr
      (fun _ => ⟨Ports.writesCmd_of_not_writes (Ports.writes_of_reads hreads), rfl⟩) rfl (fun _ => ⟨rfl, rfl⟩) hport
    refine ⟨_, u, hs, hu, ?_, fun _ => rfl⟩
    rw [← hx]; rfl

/-! ### A stray byte -/

theorem writeReg_withPorts (s : State) (q : Ports) (r : HostReg) (v : Word) :
    (s.withPorts q).writeReg r v = (s.writeReg r v).withPorts q := by
  cases hb : s.busy
  · cases r <;> simp only [State.writeReg, whenIdle, hb, show (s.withPorts q).busy = false from hb]
    case status => split <;> rfl
    all_goals rfl
  · rw [writeReg_busy _ _ _ hb, writeReg_busy (s.withPorts q) _ _ hb]; rfl

/-- The host's part of a cycle looks at no received byte. -/
theorem hostPart_without_byte (s : State) :
    hostWrite (hostRead (s.withPorts { s.ports with rxValid := false })) =
      (hostWrite (hostRead s)).withPorts { s.ports with rxValid := false } := by
  have hread : hostRead (s.withPorts { s.ports with rxValid := false }) =
      (hostRead s).withPorts { s.ports with rxValid := false } := by
    unfold hostRead
    by_cases h : s.ports.reads = true
    · rw [if_pos h, if_pos (by exact h)]; rfl
    · rw [if_neg h, if_neg (by exact h)]
  rw [hread]
  unfold hostWrite
  by_cases h : s.ports.writes = true
  · rw [if_pos (by exact h), if_pos (by simpa using h), writeReg_withPorts]
    simp [State.withPorts]
  · rw [if_neg (by exact h), if_neg (by simpa using h)]

/-- Outside the read states the ports' part with a byte differs from that without it in STRAY_RX alone. -/
theorem portSide_stray {s : State} (hv : s.ports.rxValid = true) (hl : s.seq ≠ .awaitLen) (hb : s.seq ≠ .awaitBody) :
    portSide s = onBus s.ports (portSide (s.withPorts { s.ports with rxValid := false })).rdata
      (portSide (s.withPorts { s.ports with rxValid := false })).hostDraws true
      (portSide (s.withPorts { s.ports with rxValid := false })) := by
  unfold portSide
  rw [hostPart_without_byte, strayByte_eq, strayByte_eq]
  ext : 1 <;> simp [onBus, State.withPorts, hv, hl, hb]

/-- The acceptance of a CMD write leaves nothing of STRAY_RX (R42, R45). -/
theorem accept_onBus (o : Op) (p : Ports) (r : Option Word) (n : Nat) (x : Bool) (s : State) :
    accept o (onBus p r n x s) = onBus p r n false (accept o s) := rfl

/-- Settles O42: the byte shows in the ports' part as STRAY_RX alone, which no operation looks at and an acceptance clears;
and AWAIT_BODY's bound is the invariant's. -/
theorem strayByteSetsOnlyItsFlag : Obligations.StrayByteSetsOnlyItsFlag := by
  unfold Obligations.StrayByteSetsOnlyItsFlag
  refine ⟨fun s p rest hin hr hv hl hb => ?_, fun s t hsafe hst ht => ?_⟩
  · have hpl : s.latch.ports = p := by rw [latch_of_cons hin]
    have hport := portSide_stray (s := s.latch) (by rwa [hpl]) (by simpa using hl) (by simpa using hb)
    rw [hpl] at hport
    by_cases hacc : s.busy = false ∧ p.writesCmd = true
    · obtain ⟨hbusy, hcmd⟩ := hacc
      have hlatch := latch_with_inputs hin { p with rxValid := false }
      refine ⟨_, _, step_idle_cmd s (by rwa [hpl]) hbusy (by rwa [hpl]),
        step_idle_cmd _ (by rw [hlatch]; exact hr) hbusy (by rw [hlatch]; exact hcmd), ?_⟩
      rw [hlatch, hport, accept_onBus, hpl, (not_busy_iff s).1 hbusy, hcmd]
      rfl
    · have hcmd : s.busy = false → p.writesCmd = false := fun h => by simpa [h] using hacc
      obtain ⟨u, hu, hs, -, hrd, hn⟩ := step_onBus (q := { p with rxValid := false }) hin hr hr
        (fun h => ⟨hcmd h, hcmd h⟩) rfl (fun h => absurd h (by simp [hl, hb])) hport
      have hx : (!(s.seq == .idle && p.writesCmd)) = true := by
        simpa [State.busy, imp_iff_not_or] using hcmd
      refine ⟨_, u, hs, hu, ?_⟩
      rw [hx, ← hrd, ← hn]
      rfl
  · obtain ⟨-, -, -, -, hq⟩ := safeStateIsKept s t hsafe hst
    obtain ⟨-, -, -, -, hlt, -⟩ := (sequencerOk_awaitBody ht).1 hq
    exact hlt

/-! ### A host write in a cycle -/

theorem latch_readReg (s : State) (r : HostReg) : s.latch.readReg r = s.readReg r := by
  unfold State.latch; split <;> cases r <;> rfl

/-- A stray byte shows in no register but STATUS (R45). -/
theorem readReg_strayByte (s : State) {r : HostReg} (h : r ≠ .status) : (strayByte s).readReg r = s.readReg r := by
  rw [strayByte_eq]
  cases r with
  | status => exact absurd rfl h
  | _ => rfl

theorem statusWord_strayByte_idle {s : State} (h : s.seq = .idle) :
    (strayByte s).statusWord = s.statusWord ||| (if s.ports.rxValid then 0x00000010 else 0x00000000) := by
  rw [strayByte_eq, ← statusWord_strayRx s s.ports.rxValid]
  simp [h]

/-- A write of a register without read-write fields does nothing but a W1C write of STATUS (R22, R25). -/
theorem writeReg_not_readWrite {a : BitVec 12} (s : State) (v : Word) (h : (regAt a).readWrite = false)
    (hc : regAt a ≠ .cmd) :
    s.writeReg (regAt a) v = if regAt a = .status ∧ v.getLsbD 1 = true then clearDone s else s := by
  have hm : regAt a ≠ .reserved → (regAt a).mapped = true := regAt_mapped
  cases hr : regAt a <;> rw [hr] at h hc hm
  case cmd => exact absurd rfl hc
  case status => simp [State.writeReg]
  case ptype | pvalue | rxbuf => exact absurd (hm (by simp)) (by simpa [HostReg.readWrite, HostReg.mapped] using h)
  case ctrl | func | pcount | timeout | crcExpect | rxCount => cases h
  all_goals rfl

/-- A cycle in IDLE with a write of a read-write register: the register reads back, every other one as before, and STATUS
shows a byte that arrived. -/
theorem step_readWrite_idle {s : State} (hr : s.latch.ports.rst = false) (hb : s.busy = false)
    (hw : s.latch.ports.writes = true) (hrw : (regAt s.latch.ports.busAddr).readWrite = true) :
    ∃ t, step s = .next t ∧ t.busy = false ∧
      t.readReg (regAt s.latch.ports.busAddr) =
        s.latch.ports.busWdata &&& (regAt s.latch.ports.busAddr).fieldMask ∧
      (∀ r', r' ≠ regAt s.latch.ports.busAddr → r' ≠ .status → t.readReg r' = s.readReg r') ∧
      t.statusWord = s.statusWord ||| (if s.latch.ports.rxValid then 0x00000010 else 0x00000000) := by
  have hbl : s.latch.busy = false := by simpa using hb
  have hne : regAt s.latch.ports.busAddr ≠ .cmd := fun h => by simp [h, HostReg.readWrite] at hrw
  have hns : HostReg.status ≠ regAt s.latch.ports.busAddr := fun h => by simp [← h, HostReg.readWrite] at hrw
  have hcmd : s.latch.ports.writesCmd = false := by simp [Ports.writesCmd, hne]
  refine ⟨_, step_idle_quiet s hr hb hcmd, by simpa using hb, ?_⟩
  rw [portSide_of_writes hw]
  refine ⟨?_, fun r' hr' hst => ?_, ?_⟩
  · rw [readReg_strayByte _ hns.symm, readReg_writeReg_same _ hbl hrw]
  · rw [readReg_strayByte _ hst, readReg_writeReg_other _ hbl hrw hr', latch_readReg]
  · have hstatus : (s.latch.writeReg (regAt s.latch.ports.busAddr) s.latch.ports.busWdata).statusWord = s.statusWord :=
      (readReg_writeReg_other _ hbl hrw hns).trans (latch_readReg s .status)
    rw [statusWord_strayByte_idle (by simpa using (not_busy_iff s).1 hb), hstatus, writeReg_ports]

/-- A write without effect in a cycle: the cycle ends as without it. -/
theorem step_write_without_effect {s : State} {p : Ports} {rest : List Ports} (hin : s.inputs = p :: rest)
    (hw : p.writes = true) (hc : regAt p.busAddr ≠ .cmd)
    (h : s.latch.writeReg (regAt p.busAddr) p.busWdata = s.latch) :
    ∃ u, step { s with inputs := { p with busSel := false } :: rest } = .next u ∧ step s = .next { u with ports := p } := by
  have hpl : s.latch.ports = p := by rw [latch_of_cons hin]
  have hlatch := latch_with_inputs hin { p with busSel := false }
  obtain hr | hr := Bool.eq_false_or_eq_true p.rst
  · refine ⟨_, step_reset _ (by rw [hlatch]; exact hr), ?_⟩
    rw [step_reset s (by rwa [hpl]), hlatch, resetCycle_with_ports s.latch { p with busSel := false } (by rw [hpl])]
    have hreads : p.reads = false := Ports.reads_of_writes hw
    have hreads' : Ports.reads { p with busSel := false } = false := rfl
    simp [resetCycle, hreads, hreads', hpl, State.withPorts]
  · have hport : portSide s.latch = onBus p none s.hostDraws (portSide (s.latch.withPorts { p with busSel := false })).strayRx
        (portSide (s.latch.withPorts { p with busSel := false })) := by
      rw [portSide_of_writes (by rwa [hpl]), portSide_of_not_selected rfl, hpl, h, strayByte_eq, strayByte_eq]
      ext : 1 <;> simp [onBus, State.withPorts, hpl]
    have hcmd : p.writesCmd = false := by simp [Ports.writesCmd, hc]
    obtain ⟨u, hu, hs, hx, hrd, hn⟩ := step_onBus (q := { p with busSel := false }) hin hr hr (fun _ => ⟨hcmd, rfl⟩) rfl
      (fun _ => ⟨rfl, rfl⟩) hport
    rw [portSide_of_not_selected rfl] at hrd hn
    refine ⟨u, hu, ?_⟩
    rw [hs, ← hx, show (none : Option Word) = u.rdata by simp [hrd, State.withPorts],
      show s.hostDraws = u.hostDraws by simp [hn, State.withPorts]]
    rfl

/-- Settles O38, by what a write of each register does to each read, and by what a write without read-write fields does not
do. -/
theorem registersReadBack : Obligations.RegistersReadBack := by
  unfold Obligations.RegistersReadBack
  refine ⟨fun s r v hb hr => ⟨readReg_writeReg_same v hb hr, fun r' _ hne => readReg_writeReg_other v hb hr hne⟩, ?_, ?_⟩
  · rintro s r hr hb hw rfl hrw
    obtain ⟨t, hst, htb, hsame, hother, hstatus⟩ := step_readWrite_idle hr hb hw hrw
    exact ⟨t, hst, htb, hsame, fun r' _ hne hns => hother r' hne hns, hstatus⟩
  · intro s p rest hin hw hnrw hc
    have hpl : s.latch.ports = p := by rw [latch_of_cons hin]
    have hwrite := writeReg_not_readWrite s.latch p.busWdata hnrw hc
    by_cases hw1c : regAt p.busAddr = .status ∧ p.busWdata.getLsbD 1 = true
    · obtain ⟨t, ht⟩ := everyCycleHasANextState s
      obtain ⟨u, hu⟩ := everyCycleHasANextState { s with inputs := { p with busSel := false } :: rest }
      refine ⟨t, u, ht, hu, fun h => ?_, fun _ _ hr hb => ?_⟩
      · obtain ⟨hst, hbit⟩ := hw1c
        simp [hst] at h
        simp [h] at hbit
      · have hlatch := latch_with_inputs hin { p with busSel := false }
        rw [step_idle_quiet s (by rwa [hpl]) hb (by simp [hpl, Ports.writesCmd, hc]),
          portSide_of_writes (by rwa [hpl]), hpl, hwrite, if_pos hw1c] at ht
        rw [step_idle_quiet _ (by rw [hlatch]; exact hr) (by exact hb) (by rw [hlatch]; rfl), hlatch,
          portSide_of_not_selected rfl] at hu
        cases ht
        cases hu
        rw [strayByte_eq, strayByte_eq]
        ext : 1 <;> simp [State.withPorts, hpl]
    · rw [if_neg hw1c] at hwrite
      obtain ⟨u, hu, hs⟩ := step_write_without_effect hin hw hc hwrite
      exact ⟨_, u, hs, hu, fun _ => rfl, fun hst hbit => absurd ⟨hst, hbit⟩ hw1c⟩

end Sys2Proof.Machine
end

section
/-! PROOFS. The state withFetchWord gives runs the decoded row next. First, a row the block handles means what the
operation in progress means; then, what decodes is well formed, and `stage` places a well-formed row where the block
handles it. -/

namespace Sys2Proof.Machine

/-! ### The operation's cycle in which a row is handled -/

theorem exec_instr_performing {s : State} {o : Op} (h : s.performing o = true) (act : State → State)
    (hact : exec o.instr s = .next (localCycle o act s)) : exec s.op.instr s = .next (act s) := by
  obtain ⟨-, ho, -⟩ := (performing_iff s o).1 h
  rw [ho, hact, localCycle_performing _ _ _ h]

/-- Where the builder runs, the operation in progress, BUILD or EXECUTE, is the builder's work (R105, R111). -/
theorem exec_of_buildingFor {s : State} {fc : BitVec 12} {n : BitVec 8} (h : s.buildingFor fc n = true) :
    exec s.op.instr s = .next (builderWork s) ∧ s.builtFrame = build fc n s.slots.toList := by
  obtain ⟨hs, ho, hl, rfl, rfl⟩ := (buildingFor_iff s fc n).1 h
  refine ⟨?_, rfl⟩
  obtain ho | ho := ho
  · exact exec_instr_performing ((performing_iff s _).2 ⟨hs, ho, hl⟩) builderWork rfl
  · rw [ho, ← localCycle_performing .execute builderWork s ((performing_iff s _).2 ⟨hs, ho, hl⟩),
      ← executeCycle_compute hs]
    rfl

/-- Where the validator classifies, the operation in progress, CLASSIFY or EXECUTE, completes with the triple (R115,
R121). -/
theorem exec_of_underTest {s : State} {buf : List Byte} (h : s.underTest = some buf) :
    exec s.op.instr s = .next (concludeTest (classify buf) s) := by
  obtain ⟨hs, ho, hl, rfl⟩ | ⟨hs, ho, hl, rfl⟩ := (underTest_eq_some s buf).1 h
  · rw [exec_instr_performing ((performing_iff s _).2 ⟨hs, ho, hl⟩) classifyWork rfl]
    simp [classifyWork, concludeTest, hs]
  · rw [ho, show exec Op.execute.instr s = .next (executeCycle s) from rfl, executeCycle_validated hs ho]
    simp [validatedCycle, hl]

/-! ### A row the block handles -/

/-- A merged pair: the shared header byte and the value bytes of both (R67, R84). -/
theorem mergeParam_encodeParam (t1 t2 : IntType) (v1 v2 : Word) :
    mergeParam (encodeParam t1 v1) t2 v2 = ((tagOf t1 <<< 4) + tagOf t2) :: (vbytes t1 v1 ++ vbytes t2 v2) := rfl

/-- A lone parameter's row is ENCODE's work (R66). -/
theorem exec_lone {s : State} {i : Instr} {p : Param} {ty : IntType} (hi : rowParams i = [p])
    (hh : producesGroup i s = true) (hc : checkParam p 0 = .ok ty) (hg : groupBytes i = encodeParam ty p.value) :
    .next (groupCycle i s) = exec s.op.instr s := by
  have hh' := hh
  simp only [producesGroup, hi, Bool.and_eq_true, beq_iff_eq] at hh'
  obtain ⟨hp, h0⟩ := hh'
  rw [exec_instr_performing hp encodeWork rfl, groupCycle, if_pos hh, encodeWork, h0, hc, hg]

/-- A pair's row is MERGE's work (R67). -/
theorem exec_pair {s : State} {i : Instr} {p q : Param} {t1 t2 : IntType} (hi : rowParams i = [p, q])
    (hh : producesGroup i s = true) (h1 : checkParam p 0 = .ok t1) (h2 : checkParam q 1 = .ok t2)
    (hg : groupBytes i = mergeParam (encodeParam t1 p.value) t2 q.value) :
    .next (groupCycle i s) = exec s.op.instr s := by
  have hh' := hh
  simp only [producesGroup, hi, Bool.and_eq_true, beq_iff_eq] at hh'
  obtain ⟨⟨hp, hs0⟩, hs1⟩ := hh'
  rw [exec_instr_performing hp mergeWork rfl, groupCycle, if_pos hh, mergeWork, hs0, hs1, h1, h2, hg]

/-- A command word's row is the builder's work (R69, R78). -/
theorem commandWordCycle_of_buildingFor {s : State} {fc : BitVec 12} {n : BitVec 4}
    (h : s.buildingFor fc (n.setWidth 8) = true) : .next (commandWordCycle fc n s) = exec s.op.instr s := by
  obtain ⟨he, hb⟩ := exec_of_buildingFor h
  rw [he, commandWordCycle, if_pos h, builderWork, hb]

/-- A request frame's row is the builder's work, which gives the wire format's frame (R70). -/
theorem execRequestFrame_of_producesFrame {s : State} {fc : BitVec 12} {ps : List Param}
    (h : producesFrame fc ps s = true) : execRequestFrame fc ps s = exec s.op.instr s := by
  have h' := h
  simp only [producesFrame, Instr.wellFormed, Bool.and_eq_true, decide_eq_true_eq, beq_iff_eq] at h'
  obtain ⟨⟨⟨hlen, hvalid⟩, hb⟩, htake⟩ := h'
  obtain ⟨he, hf⟩ := exec_of_buildingFor hb
  have hn : (BitVec.ofNat 8 ps.length).toNat = ps.length := toNat_len _ (by omega)
  have hbuild : build fc (BitVec.ofNat 8 ps.length) s.slots.toList = .ok (requestBytes fc ps) := by
    rw [build_ok _ _ _ _ (slots_length s), hn, htake]
    exact ⟨hlen, hvalid, rfl⟩
  rw [he, execRequestFrame, if_pos h, builderWork, hf, hbuild]

/-- A response frame's row is the validator's work (R71, R72). -/
theorem execResponseFrame_of_underTest {s : State} {payload : List Byte}
    (h : handles (.responseFrame payload) s = true) : execResponseFrame payload s = exec s.op.instr s := by
  simp only [handles, Bool.and_eq_true, Option.any_eq_true, beq_iff_eq] at h
  obtain ⟨hw, buf, hbuf, htake⟩ := h
  rw [exec_of_underTest hbuf, execResponseFrame, hbuf, classify_of_response payload buf hw htake]
  simp [hw, htake]

/-- A result code's row is the validator's work (R74). -/
theorem resultCodeCycle_of_underTest {s : State} {c : Byte} (hc : c ∈ resultCodes)
    (h : (s.underTest.any fun buf => carriedCode buf == some c) = true) :
    .next (resultCodeCycle c s) = exec s.op.instr s := by
  simp only [Option.any_eq_true, beq_iff_eq] at h
  obtain ⟨buf, hbuf, hcarried⟩ := h
  rw [exec_of_underTest hbuf, resultCodeCycle, hbuf, carried_classify buf c hcarried hc]
  simp [hcarried]

/-- A row the block handles means what the operation in progress means (log entry 4). -/
theorem exec_of_handles {s : State} {i : Instr} (h : handles i s = true) : exec i s = exec s.op.instr s := by
  have hop : ∀ o, s.performing o = true → exec o.instr s = exec s.op.instr s := by
    intro o ho; rw [((performing_iff s o).1 ho).2.1]
  cases i <;> simp only [handles] at h
  case nop => exact hop _ h
  case encode => exact hop _ h
  case merge => exact hop _ h
  case build => exact hop _ h
  case checksum => exact hop _ h
  case verify => exact hop _ h
  case classify => exact hop _ h
  case execute =>
    obtain h | h := Bool.or_eq_true_iff.1 h
    · exact hop _ h
    · simp only [Bool.and_eq_true, beq_iff_eq] at h
      rw [h.1.1]; rfl
  case paramUint8 v => exact exec_lone rfl h (checkParam_uint8 v 0) (by rw [encodeParam, vbytes_uint8]; rfl)
  case paramUint16 v => exact exec_lone rfl h (checkParam_uint16 v 0) (by rw [encodeParam, vbytes_uint16]; rfl)
  case paramUint32 v => exact exec_lone rfl h (checkParam_uint32 v 0) rfl
  case cmdword => exact commandWordCycle_of_buildingFor h
  case fc010 | fc011 | fc021 | fc031 | fc041 | fc051 => exact commandWordCycle_of_buildingFor h
  case requestFrame => exact execRequestFrame_of_producesFrame h
  case responseFrame => exact execResponseFrame_of_underTest h
  case noError | crcError | methodError | parametersError | tooEarlyError | timeoutError | undefinedError
      | redefinedError | genericError => exact resultCodeCycle_of_underTest (by decide) h
  case pairUint8Uint8 v w =>
    exact exec_pair rfl h (checkParam_uint8 v 0) (checkParam_uint8 w 1)
      (by rw [mergeParam_encodeParam, vbytes_uint8, vbytes_uint8]; rfl)
  case pairUint8Uint16 v w =>
    exact exec_pair rfl h (checkParam_uint8 v 0) (checkParam_uint16 w 1)
      (by rw [mergeParam_encodeParam, vbytes_uint8, vbytes_uint16]; rfl)
  case pairUint8Uint32 v w =>
    exact exec_pair rfl h (checkParam_uint8 v 0) (checkParam_uint32 w 1)
      (by rw [mergeParam_encodeParam, vbytes_uint8, vbytes_uint32]; rfl)
  case pairUint16Uint8 v w =>
    exact exec_pair rfl h (checkParam_uint16 v 0) (checkParam_uint8 w 1)
      (by rw [mergeParam_encodeParam, vbytes_uint16, vbytes_uint8]; rfl)
  case pairUint16Uint16 v w =>
    exact exec_pair rfl h (checkParam_uint16 v 0) (checkParam_uint16 w 1)
      (by rw [mergeParam_encodeParam, vbytes_uint16, vbytes_uint16]; rfl)
  case pairUint16Uint32 v w =>
    exact exec_pair rfl h (checkParam_uint16 v 0) (checkParam_uint32 w 1)
      (by rw [mergeParam_encodeParam, vbytes_uint16, vbytes_uint32]; rfl)
  case pairUint32Uint8 v w =>
    exact exec_pair rfl h (checkParam_uint32 v 0) (checkParam_uint8 w 1)
      (by rw [mergeParam_encodeParam, vbytes_uint32, vbytes_uint8]; rfl)
  case pairUint32Uint16 v w =>
    exact exec_pair rfl h (checkParam_uint32 v 0) (checkParam_uint16 w 1)
      (by rw [mergeParam_encodeParam, vbytes_uint32, vbytes_uint16]; rfl)
  case pairUint32Uint32 v w =>
    exact exec_pair rfl h (checkParam_uint32 v 0) (checkParam_uint32 w 1)
      (by rw [mergeParam_encodeParam, vbytes_uint32, vbytes_uint32]; rfl)

/-! ### What decodes is well formed -/

theorem operation_wellFormed (o : Op) : o.instr.wellFormed = true := by cases o <;> rfl

/-- No command word is a CMDWORD and a consumer call's at once (R78; log entry 5). -/
theorem decodeCommandWord_wellFormed (w : BitVec 16) : (decodeCommandWord w).wellFormed = true := by
  unfold decodeCommandWord
  split_ifs with h1 h2 h3 h4 h5 h6
  case neg =>
    by_contra hw
    simp only [Instr.wellFormed, isFacadeWord, facadeCodes, Bool.not_eq_true', Bool.not_eq_false, Bool.and_eq_true,
      List.contains_eq_mem, decide_eq_true_eq, beq_iff_eq, List.mem_cons, List.not_mem_nil, or_false] at hw
    obtain ⟨hfc, hn⟩ := hw
    have hsplit := append_high_low w
    rw [hn] at hsplit
    obtain e | e | e | e | e | e := hfc <;> rw [e] at hsplit
    · exact h1 hsplit.symm
    · exact h2 hsplit.symm
    · exact h3 hsplit.symm
    · exact h4 hsplit.symm
    · exact h5 hsplit.symm
    · exact h6 hsplit.symm
  all_goals rfl

theorem valid_uint8 (v : BitVec 8) : Param.valid ⟨1#8, v.setWidth 32⟩ = true := by
  simp only [Param.valid, BitVec.toNat_setWidth]; simp; omega

theorem valid_uint16 (v : BitVec 16) : Param.valid ⟨2#8, v.setWidth 32⟩ = true := by
  simp only [Param.valid, BitVec.toNat_setWidth]; simp; omega

theorem valid_uint32 (v : BitVec 32) : Param.valid ⟨3#8, v⟩ = true := by
  simp [Param.valid]

/-- A group's row is well formed and carries valid parameters (R66, R67). -/
theorem group_wellFormed {i : Instr} (h : groupBytes i ≠ []) :
    i.wellFormed = true ∧ (rowParams i).all Param.valid = true := by
  cases i <;> simp only [groupBytes, ne_eq, not_true_eq_false] at h
  all_goals exact ⟨rfl, by simp [rowParams, valid_uint8, valid_uint16, valid_uint32]⟩

theorem loneRow_group {p : Param} {i : Instr} (h : loneRow p = some i) : groupBytes i ≠ [] := by
  unfold loneRow at h
  split at h <;> cases h <;> simp [groupBytes]

theorem pairRow_group {p q : Param} {i : Instr} (h : pairRow p q = some i) : groupBytes i ≠ [] := by
  unfold pairRow at h
  split at h <;> cases h <;> simp [groupBytes]

/-- What a group decodes to is a group's row (R66, R67). -/
theorem decodeGroup_group {bs rest : List Byte} {i : Instr} (h : decodeGroup bs = .ok (i, rest)) : groupBytes i ≠ [] := by
  unfold decodeGroup at h
  repeat' split at h
  all_goals cases h
  · exact loneRow_group ‹_›
  · exact pairRow_group ‹_›

/-- An area of `n` parameters decodes to `n` valid ones (R68). -/
theorem decodeArea_valid {n : Nat} {bs : List Byte} {ps : List Param} (h : decodeArea n bs = .ok ps) :
    ps.length = n ∧ ps.all Param.valid = true := by
  induction n using Nat.twoStepInduction generalizing bs ps with
  | zero => cases bs <;> cases h; exact ⟨rfl, rfl⟩
  | one =>
    rw [decodeArea] at h
    repeat' split at h
    all_goals cases h
    next hp hg =>
    exact ⟨rfl, hp ▸ (group_wellFormed (decodeGroup_group hg)).2⟩
  | more n ih _ =>
    rw [decodeArea] at h
    repeat' split at h
    all_goals cases h
    next hg _ _ _ hp _ _ hrest =>
    have hpair := (group_wellFormed (decodeGroup_group hg)).2
    obtain ⟨hlen, hall⟩ := ih hrest
    rw [hp] at hpair
    exact ⟨by simp [hlen], by simpa [hall] using hpair⟩

/-- A frame that passes the checks has 5 to 255 bytes (R70, R71, R73). -/
theorem checkFrame_length {bs : List Byte} (h : checkFrame bs = .ok ()) : 5 ≤ bs.length ∧ bs.length ≤ 255 := by
  unfold checkFrame at h
  split at h
  · cases h
  · next len rest =>
    have := len.isLt
    split_ifs at h with h5 hlen hcrc
    omega

theorem decodeRequest_wellFormed {bs : List Byte} {i : Instr} (h : decodeRequest bs = .ok i) : i.wellFormed = true := by
  unfold decodeRequest at h
  dsimp only at h
  repeat' split at h
  all_goals cases h
  next ps harea =>
  obtain ⟨hn, hv⟩ := decodeArea_valid harea
  have := ((bs.getD 1 0 ++ bs.getD 2 0).extractLsb' 0 4).isLt
  simp only [Instr.wellFormed, hv, Bool.and_true, decide_eq_true_eq]
  omega

theorem decodeResponse_wellFormed {bs : List Byte} {i : Instr} (h : decodeResponse bs = .ok i) :
    i.wellFormed = true := by
  unfold decodeResponse at h
  split at h
  · cases h
  · next hc =>
    cases h
    obtain ⟨h5, h255⟩ := checkFrame_length hc
    simp only [Instr.wellFormed, List.length_drop, List.length_take, Bool.and_eq_true, decide_eq_true_eq]
    omega

theorem decodeResultCode_wellFormed {b : Byte} {i : Instr} (h : decodeResultCode b = .ok i) : i.wellFormed = true := by
  unfold decodeResultCode at h
  split_ifs at h <;> cases h <;> rfl

/-- What an opcode-table row's bits decode to is well formed. -/
theorem decodeTableWord_wellFormed {nbits w : Nat} {i : Instr} (h : decodeTableWord nbits w = some i) :
    i.wellFormed = true := by
  unfold decodeTableWord decodeTableByte decodeTableFrame at h
  repeat' split at h
  all_goals cases h
  · rw [decodeCmd_eq]; exact operation_wellFormed _
  · exact decodeCommandWord_wellFormed _
  · exact decodeResultCode_wellFormed ‹_›
  · exact (group_wellFormed (decodeGroup_group ‹_›)).1
  · exact decodeRequest_wellFormed ‹_›
  · exact decodeResponse_wellFormed ‹_›

/-! ### Where `stage` places a row -/

theorem performing_atWork (o : Op) (s : State) : (atWork o s).performing o = true := (performing_iff _ _).2 ⟨rfl, rfl, rfl⟩

theorem producesGroup_lone {i : Instr} {p : Param} (hi : rowParams i = [p]) (s : State) :
    producesGroup i (atWork .encode (setSlots 0 (rowParams i) s)) = true := by
  have h0 : (setSlots 0 [p] s).slot 0 = p := by simp [slots_setSlots]
  simp only [producesGroup, hi, performing_atWork, Bool.true_and, beq_iff_eq]
  exact h0

theorem producesGroup_pair {i : Instr} {p q : Param} (hi : rowParams i = [p, q]) (s : State) :
    producesGroup i (atWork .merge (setSlots 0 (rowParams i) s)) = true := by
  have h0 : (setSlots 0 [p, q] s).slot 0 = p := by simp [slots_setSlots]
  have h1 : (setSlots 0 [p, q] s).slot 1 = q := by simp [slots_setSlots]
  simp only [producesGroup, hi, performing_atWork, Bool.true_and, Bool.and_eq_true, beq_iff_eq]
  exact ⟨h0, h1⟩

theorem buildingFor_withRequest (fc : BitVec 12) (ps : List Param) (s : State) :
    (atWork .build (withRequest fc ps s)).buildingFor fc (BitVec.ofNat 8 ps.length) = true :=
  (buildingFor_iff _ _ _).2 ⟨rfl, .inl rfl, rfl, rfl, rfl⟩

theorem underTest_withResponse (bytes : List Byte) (s : State) (h : bytes.length ≤ 255) :
    (atWork .classify (withResponse bytes s)).underTest = some bytes := by
  refine (underTest_eq_some _ _).2 (.inl ⟨rfl, rfl, rfl, ?_⟩)
  refine (hostBytes_of_beginsWith _ _ (toNat_len _ (by omega)).symm ?_).symm
  exact beginsWith_writeAll _ _ _ (by simp [Config.rxbufSize]; omega)

/-- The shortest response that carries a code carries it (R72, R73). -/
theorem carriedCode_carrier (c : Byte) : carriedCode (carrier c) = some c := by
  have hcrc : crc16 (carrier c) = 0 := crc16_withCrc _
  have hbytes : carrier c = 7#8 :: (carrier c).tail := rfl
  have hlen : (carrier c).length = 7 := responseBytes_length _
  have htake : (carrier c).take 7 = carrier c := List.take_of_length_le (by omega)
  have hstatus : statusByte (carrier c) = 1#8 := rfl
  have hcode : errorCodeByte (carrier c) = c := rfl
  rw [hbytes, carriedCode, ← hbytes]
  simp [hcrc, hlen, htake, hstatus, hcode]

theorem underTest_carrier (c : Byte) (s : State) :
    ((atWork .classify (withResponse (carrier c) s)).underTest.any fun buf => carriedCode buf == some c) = true := by
  rw [underTest_withResponse _ _ (by rw [carrier, responseBytes_length]; simp), Option.any_some, carriedCode_carrier]
  exact beq_self_eq_true _

/-- The state in which `stage` puts a well-formed row is one whose cycle is the row's work (log entries 3 and 14). -/
theorem handles_stage (i : Instr) (s : State) (hw : i.wellFormed = true) : handles i (stage i s) = true := by
  cases i <;> simp only [handles, stage]
  case nop | encode | merge | build | checksum | verify | classify => exact performing_atWork _ s
  case execute => rw [performing_atWork, Bool.true_or]
  case paramUint8 | paramUint16 | paramUint32 => exact producesGroup_lone rfl s
  case pairUint8Uint8 | pairUint8Uint16 | pairUint8Uint32 | pairUint16Uint8 | pairUint16Uint16 | pairUint16Uint32
      | pairUint32Uint8 | pairUint32Uint16 | pairUint32Uint32 => exact producesGroup_pair rfl s
  case cmdword fc n =>
    have hn : BitVec.ofNat 8 (zeroParams n.toNat).length = n.setWidth 8 := by
      simp [zeroParams]
    rw [← hn]; exact buildingFor_withRequest fc _ s
  case fc010 | fc011 | fc021 | fc031 | fc041 | fc051 => exact buildingFor_withRequest _ (zeroParams 1) s
  case requestFrame fc ps =>
    have hlen : ps.length ≤ 15 := by
      simp only [Instr.wellFormed, Bool.and_eq_true, decide_eq_true_eq] at hw
      exact hw.1
    rw [producesFrame, hw, buildingFor_withRequest, Bool.true_and, Bool.true_and, beq_iff_eq]
    exact take_slots ps s hlen
  case responseFrame payload =>
    have hlen : (responseBytes payload).length ≤ 255 := by
      simp only [Instr.wellFormed, Bool.and_eq_true, decide_eq_true_eq] at hw
      rw [responseBytes_length]; omega
    rw [hw, underTest_withResponse _ _ hlen, Option.any_some, Bool.true_and, beq_iff_eq, ← responseBytes_length,
      List.take_length]
  case noError | crcError | methodError | parametersError | tooEarlyError | timeoutError | undefinedError
      | redefinedError | genericError => exact underTest_carrier _ s

/-- A quiet cycle's latch leaves a row the block handles. -/
theorem handles_latch_quietNext (i : Instr) (s : State) : handles i (quietNext s).latch = handles i s := by
  rw [latch_quietNext]; cases i <;> rfl

/-- Settles O34: `stage` places the decoded row where the block handles it, and a row it handles is what the operation in
progress does. -/
theorem fetchWordIsRunNext : Obligations.FetchWordIsRunNext := by
  intro s nbits w i hd
  have hstage : s.withFetchWord nbits w = quietNext (stage i s) := by rw [State.withFetchWord, hd]
  have hh : handles i (s.withFetchWord nbits w).latch = true := by
    rw [hstage, handles_latch_quietNext, handles_stage i s (decodeTableWord_wellFormed hd)]
  refine ⟨hh, ?_⟩
  have hports : (s.withFetchWord nbits w).latch.ports = Ports.quiet := by rw [hstage]; rfl
  have hbusy : (s.withFetchWord nbits w).busy = true := (latch_busy _).symm.trans (handles_busy _ _ hh)
  rw [step_busy _ (by rw [hports]; rfl) hbusy, portSide_quiet _ hports, exec_of_handles hh, latch_op]

end Sys2Proof.Machine
end

section
/-! PROOFS. EXECUTE end to end against a peer that takes and answers at once: what holds in each sequencer state of the
transaction, what one cycle of it does, and the runs through it, one after the other. -/

namespace Sys2Proof.Machine

/-! ### Runs and cycles without a bus access -/

/-- Two runs, one after the other. -/
theorem run_add {m : Nat} {s t : State} (n : Nat) (h : Sys2Proof.core.run m s = .next t) :
    Sys2Proof.core.run (m + n) s = Sys2Proof.core.run n t := by
  induction m generalizing s with
  | zero => cases h; rw [Nat.zero_add]
  | succ m ih =>
    obtain ⟨u, hu⟩ := everyCycleHasANextState s
    rw [run_succ_of_step m hu] at h
    rw [Nat.succ_add, run_succ_of_step _ hu, ih h]

/-- EXECUTE is in sequencer state `q`, the ports of the cycles to come are these, TIMEOUT is `w`, the peer has taken these
bytes, and no byte came at the wrong time. -/
structure Running (q : SeqState) (pending : List Ports) (w : Word) (taken : List Byte) (s : State) : Prop where
  op      : s.op = .execute
  seq     : s.seq = q
  inputs  : s.inputs = pending
  timeout : s.timeout = w
  taken   : s.taken = taken
  strayRx : s.strayRx = false

/-- TXBUF and TX_LEN hold this frame. -/
structure HoldsFrame (frame : List Byte) (s : State) : Prop where
  txLen : s.txLen.toNat = frame.length
  txbuf : beginsWith s.txbuf frame

/-- EXECUTE has stored these bytes in RXBUF. -/
structure Stored (bytes : List Byte) (s : State) : Prop where
  rxN   : s.rxN.toNat = bytes.length
  rxbuf : beginsWith s.rxbuf bytes

theorem HoldsFrame.latch {frame : List Byte} {s : State} (h : HoldsFrame frame s) : HoldsFrame frame s.latch :=
  ⟨by simpa using h.txLen, by simpa using h.txbuf⟩

theorem Stored.latch {bytes : List Byte} {s : State} (h : Stored bytes s) : Stored bytes s.latch :=
  ⟨by simpa using h.rxN, by simpa using h.rxbuf⟩

/-- A port's cycle without reset and without a bus access. -/
def Ports.calm (p : Ports) : Bool := !p.rst && !p.busSel

/-- A calm cycle of EXECUTE, with no byte but where one is read, is EXECUTE's cycle of the state at its begin. -/
theorem Running.step {q : SeqState} {p : Ports} {rest : List Ports} {w : Word} {taken : List Byte} {s : State}
    (h : Running q (p :: rest) w taken s) (hq : q ≠ .idle) (hp : p.calm = true)
    (hrx : p.rxValid = false ∨ q = .awaitLen ∨ q = .awaitBody) :
    step s = .next (executeCycle s.latch) ∧ s.latch.ports = p ∧ Running q rest w taken s.latch := by
  obtain ⟨ho, hs, hi, hw, ht, hx⟩ := h
  simp only [Ports.calm, Bool.and_eq_true, Bool.not_eq_true'] at hp
  obtain ⟨hr, hsel⟩ := hp
  have hports : s.latch.ports = p := by rw [latch_of_cons hi]
  have hstray : strayByte s.latch = s.latch := by
    obtain h | rfl | rfl := hrx
    · unfold strayByte; rw [hports, h]; split <;> rfl
    · simp [strayByte, hs]
    · simp [strayByte, hs]
  refine ⟨?_, hports, ⟨by simpa using ho, by simpa using hs, by simp [hi], by simpa using hw, by simpa using ht,
    by simpa using hx⟩⟩
  rw [step_execute s (by rw [hports, hr]) ((busy_iff s).2 (by rw [hs]; exact hq)) ho,
    portSide_of_not_selected (by rw [hports, hsel]), hstray]

/-! ### COMPUTE (R111) -/

section
variable {frame resp : List Byte} {rest : List Ports} {w : Word} {taken : List Byte} {s : State} {k : Nat}

/-- EXECUTE is in COMPUTE with `k` cycles of latency left, on a request that builds this frame. -/
structure Computing (frame : List Byte) (k : Nat) (pending : List Ports) (w : Word) (taken : List Byte) (s : State) : Prop
    extends Running .compute pending w taken s where
  lat   : s.lat = k
  built : s.builtFrame = .ok frame

/-- EXECUTE is in FRAME_SENT with the first `i` bytes of the frame taken. -/
structure Sending (frame : List Byte) (i : Nat) (pending : List Ports) (w : Word) (taken : List Byte) (s : State) : Prop
    extends Running .frameSent pending w (taken ++ frame.take i) s, HoldsFrame frame s where
  txIdx : s.txIdx.toNat = i

theorem Computing.wait (h : Computing frame (k + 1) (Ports.quiet :: rest) w taken s) :
    ∃ t, Machine.step s = .next t ∧ Computing frame k rest w taken t := by
  obtain ⟨hstep, -, ho, hs, hi, hw, ht, hx⟩ := h.toRunning.step (by decide) rfl (.inl rfl)
  refine ⟨waitCycle s.latch, ?_, ⟨ho, hs, hi, hw, ht, hx⟩, by simp [h.lat], ?_⟩
  · rw [hstep, executeCycle_compute hs]
    simp [localCycle, h.op, h.seq, h.lat]
  · simpa [State.builtFrame] using h.built

theorem Computing.build (h : Computing frame 0 (Ports.quiet :: rest) w taken s) :
    ∃ t, Machine.step s = .next t ∧ Sending frame 0 rest w taken t := by
  obtain ⟨hstep, -, ho, hs, hi, hw, ht, hx⟩ := h.toRunning.step (by decide) rfl (.inl rfl)
  have hb : s.latch.builtFrame = .ok frame := by simpa [State.builtFrame] using h.built
  obtain ⟨h5, h73⟩ := builtFrame_ok s frame h.built
  refine ⟨startTransmit frame s.latch, ?_, ⟨ho, rfl, hi, hw, by simpa using ht, hx⟩,
    ⟨toNat_len _ (by omega), beginsWith_writeAll _ _ _ h73⟩, rfl⟩
  rw [hstep, executeCycle_compute hs, localCycle_performing _ _ _ ((performing_iff _ _).2 ⟨hs, ho, by simp [h.lat]⟩),
    builderWork_execute hb ho]

/-- COMPUTE ends with the frame in TXBUF. -/
theorem Computing.run (h : Computing frame k (peerSilentCycles (k + 1) ++ rest) w taken s) :
    ∃ t, Sys2Proof.core.run (k + 1) s = .next t ∧ Sending frame 0 rest w taken t := by
  induction k generalizing s with
  | zero =>
    obtain ⟨t, hst, ht⟩ := h.build
    exact ⟨t, run_succ_of_step 0 hst, ht⟩
  | succ k ih =>
    obtain ⟨t, hst, ht⟩ := h.wait
    obtain ⟨u, hrun, hu⟩ := ih ht
    exact ⟨u, (run_succ_of_step _ hst).trans hrun, hu⟩

/-! ### FRAME_SENT (R112) -/

/-- EXECUTE is in AWAIT_LEN with the whole frame taken. -/
structure Awaiting (frame : List Byte) (pending : List Ports) (w : Word) (taken : List Byte) (s : State) : Prop
    extends Running .awaitLen pending w (taken ++ frame) s, HoldsFrame frame s

/-- The byte a sender offers is the next of the frame. -/
theorem Sending.offered {i : Nat} {pending : List Ports} (h : Sending frame i pending w taken s) (hi : i < frame.length) :
    s.latch.offered = frame[i] := by
  refine offered_of_byte? ?_
  rw [latch_txIdx, latch_txbuf, h.txIdx, h.txbuf i hi, List.getElem?_eq_getElem hi]

theorem taken_next (taken frame : List Byte) {i : Nat} (hi : i < frame.length) :
    (taken ++ frame.take i) ++ [frame[i]] = taken ++ frame.take (i + 1) := by
  rw [List.append_assoc, List.take_append_getElem]

theorem Sending.next {i : Nat} (h : Sending frame i (Ports.takes :: rest) w taken s) (h73 : frame.length ≤ 73)
    (hi : i + 1 < frame.length) : ∃ t, Machine.step s = .next t ∧ Sending frame (i + 1) rest w taken t := by
  obtain ⟨hstep, hp, ho, hs, hin, hw, ht, hx⟩ := h.toRunning.step (by decide) rfl (.inl rfl)
  have htx := h.txIdx
  have hl := h.txLen
  have hlast : (s.latch.txIdx + 1).setWidth 8 ≠ s.latch.txLen := by rw [latch_txIdx, latch_txLen]; bv_omega
  have hidx : (s.latch.txIdx + 1).toNat = i + 1 := by rw [latch_txIdx]; bv_omega
  have htaken : s.latch.taken ++ [s.latch.offered] = taken ++ frame.take (i + 1) := by
    rw [ht, h.offered (by omega), taken_next]
  rw [executeCycle_frameSent hs ho, frameSentCycle_next hs (by rw [hp]; rfl) hlast] at hstep
  obtain ⟨hlen, hbuf⟩ := h.toHoldsFrame.latch
  exact ⟨_, hstep, ⟨ho, hs, hin, hw, htaken, hx⟩, ⟨hlen, hbuf⟩, hidx⟩

theorem Sending.last {i : Nat} (h : Sending frame i (Ports.takes :: rest) w taken s) (h73 : frame.length ≤ 73)
    (hi : i + 1 = frame.length) : ∃ t, Machine.step s = .next t ∧ Awaiting frame rest w taken t := by
  obtain ⟨hstep, hp, ho, hs, hin, hw, ht, hx⟩ := h.toRunning.step (by decide) rfl (.inl rfl)
  have htx := h.txIdx
  have hl := h.txLen
  have hlast : (s.latch.txIdx + 1).setWidth 8 = s.latch.txLen := by rw [latch_txIdx, latch_txLen]; bv_omega
  have htaken : s.latch.taken ++ [s.latch.offered] = taken ++ frame := by
    rw [ht, h.offered (by omega), taken_next, hi, List.take_length]
  rw [executeCycle_frameSent hs ho, frameSentCycle_last hs (by rw [hp]; rfl) hlast] at hstep
  obtain ⟨hlen, hbuf⟩ := h.toHoldsFrame.latch
  exact ⟨_, hstep, ⟨ho, rfl, hin, hw, htaken, hx⟩, ⟨hlen, hbuf⟩⟩

/-- The peer takes the rest of the frame. -/
theorem Sending.run {n i : Nat} (h : Sending frame i (peerTakesCycles (n + 1) ++ rest) w taken s)
    (h73 : frame.length ≤ 73) (hn : i + (n + 1) = frame.length) :
    ∃ t, Sys2Proof.core.run (n + 1) s = .next t ∧ Awaiting frame rest w taken t := by
  induction n generalizing s i with
  | zero =>
    obtain ⟨t, hst, ht⟩ := h.last h73 hn
    exact ⟨t, run_succ_of_step 0 hst, ht⟩
  | succ n ih =>
    obtain ⟨t, hst, ht⟩ := h.next h73 (by omega)
    obtain ⟨u, hrun, hu⟩ := ih ht (by omega)
    exact ⟨u, (run_succ_of_step _ hst).trans hrun, hu⟩

/-! ### AWAIT_LEN and AWAIT_BODY (R113, R114) -/

/-- EXECUTE is in AWAIT_BODY with these bytes of `n` stored, one a cycle. -/
structure Receiving (frame got : List Byte) (n : Nat) (pending : List Ports) (w : Word) (taken : List Byte) (s : State) :
    Prop extends Running .awaitBody pending w (taken ++ frame) s, HoldsFrame frame s, Stored got s where
  rxLen : s.rxLen.toNat = n
  timer : s.timer.toNat + 1 = got.length

/-- EXECUTE is in VALIDATED with `k` cycles of latency left and this response stored. -/
structure Validating (frame resp : List Byte) (k : Nat) (pending : List Ports) (w : Word) (taken : List Byte) (s : State) :
    Prop extends Running .validated pending w (taken ++ frame) s, HoldsFrame frame s, Stored resp s where
  lat : s.lat = k

theorem beginsWith_write {m : Memory} {bytes : List Byte} {size : Nat} (b : Byte) (h : beginsWith m bytes)
    (hn : bytes.length < size) : beginsWith (Memory.write size bytes.length b m) (bytes ++ [b]) := by
  intro i hi
  rw [List.length_append, List.length_singleton] at hi
  rw [Memory.byte?_write]
  by_cases he : i = bytes.length
  · rw [if_pos ⟨he, hn⟩, he, List.getElem?_concat_length]
  · rw [if_neg (by tauto), h i (by omega), List.getElem?_append_left (by omega)]

theorem Awaiting.length {b : Byte} (h : Awaiting frame (Ports.sends b :: rest) w taken s) (h5 : 5 ≤ b.toNat) :
    ∃ t, Machine.step s = .next t ∧ Receiving frame [b] b.toNat rest w taken t := by
  obtain ⟨hstep, hp, ho, hs, hin, hw, ht, hx⟩ := h.toRunning.step (by decide) rfl (.inr (.inl rfl))
  have hb : s.latch.ports.rxData = b := by rw [hp]; rfl
  rw [executeCycle_awaitLen hs ho, awaitLenCycle_long (by rw [hp]; rfl) (by rw [hb]; omega), hb] at hstep
  obtain ⟨hlen, hbuf⟩ := h.toHoldsFrame.latch
  have hrx : beginsWith (writeRx 0 b s.latch).rxbuf [b] :=
    beginsWith_write (m := s.latch.rxbuf) (bytes := []) (size := Config.rxbufSize) b
      (fun _ hi => absurd hi (Nat.not_lt_zero _)) (by decide)
  exact ⟨_, hstep, ⟨ho, rfl, hin, hw, ht, hx⟩, ⟨hlen, hbuf⟩, ⟨rfl, hrx⟩, rfl, rfl⟩

/-- A byte of the body is stored behind those before it. -/
theorem Receiving.store {got : List Byte} {n : Nat} {b : Byte}
    (h : Receiving frame got n (Ports.sends b :: rest) w taken s) (hgot : got.length < 255) :
    Stored (got ++ [b]) (storeBody s.latch) ∧
    storeBody s.latch = { writeRx got.length b s.latch with rxN := s.latch.rxN + 1 } := by
  obtain ⟨-, hp, -⟩ := h.toRunning.step (by decide) rfl (.inr (.inr rfl))
  have hn := h.rxN
  have e : storeBody s.latch = { writeRx got.length b s.latch with rxN := s.latch.rxN + 1 } := by
    rw [storeBody_valid (by rw [hp]; rfl), hp, latch_rxN, hn]; rfl
  refine ⟨?_, e⟩
  rw [e]
  refine ⟨?_, beginsWith_write b (by simpa using h.rxbuf) hgot⟩
  rw [List.length_append, List.length_singleton, ← hn]
  show (s.latch.rxN + 1).toNat = _
  rw [latch_rxN]; bv_omega

theorem Receiving.last {got : List Byte} {n : Nat} {b : Byte}
    (h : Receiving frame got n (Ports.sends b :: rest) w taken s) (hn : got.length + 1 = n) (h255 : n ≤ 255) :
    ∃ t, Machine.step s = .next t ∧ Validating frame (got ++ [b]) (Config.localLatency - 1) rest w taken t := by
  obtain ⟨hstep, hp, ho, hs, hin, hw, ht, hx⟩ := h.toRunning.step (by decide) rfl (.inr (.inr rfl))
  obtain ⟨hstored, e⟩ := h.store (by omega)
  have hlen := h.rxLen
  have hfull : (storeBody s.latch).rxN = (storeBody s.latch).rxLen := by
    have := hstored.rxN
    rw [List.length_append, List.length_singleton] at this
    apply BitVec.eq_of_toNat_eq
    rw [this, e]
    show _ = s.latch.rxLen.toNat
    rw [latch_rxLen, hlen, hn]
  refine ⟨enterValidated (storeBody s.latch), ?_, ?_, ?_, ⟨hstored.rxN, hstored.rxbuf⟩, rfl⟩
  · rw [hstep, executeCycle_awaitBody hs ho, awaitBodyCycle_full hfull]
  · rw [e]; exact ⟨ho, rfl, hin, hw, ht, hx⟩
  · rw [e]; exact ⟨h.toHoldsFrame.latch.txLen, h.toHoldsFrame.latch.txbuf⟩

theorem Receiving.next {got : List Byte} {n : Nat} {b : Byte}
    (h : Receiving frame got n (Ports.sends b :: rest) w taken s) (hn : got.length + 1 < n) (h255 : n ≤ 255)
    (hwin : n - 1 ≤ s.window.toNat) :
    ∃ t, Machine.step s = .next t ∧ Receiving frame (got ++ [b]) n rest w taken t := by
  obtain ⟨hstep, hp, ho, hs, hin, hw, ht, hx⟩ := h.toRunning.step (by decide) rfl (.inr (.inr rfl))
  obtain ⟨hstored, e⟩ := h.store (by omega)
  have hlen := h.rxLen
  have htimer := h.timer
  have hnot : (storeBody s.latch).rxN ≠ (storeBody s.latch).rxLen := by
    intro hc
    have := hstored.rxN
    rw [hc, e, List.length_append, List.length_singleton] at this
    have hl : s.latch.rxLen.toNat = got.length + 1 := this
    rw [latch_rxLen] at hl
    omega
  have hwe : windowEnds (storeBody s.latch) = false := by
    rw [windowEnds, storeBody_timer, storeBody_window, latch_timer, latch_window, beq_eq_false_iff_ne]
    bv_omega
  rw [executeCycle_awaitBody hs ho, awaitBodyCycle_waits hnot hwe] at hstep
  have hcount : ((storeBody s.latch).timer + 1).toNat + 1 = (got ++ [b]).length := by
    rw [storeBody_timer, latch_timer, List.length_append, List.length_singleton]
    bv_omega
  refine ⟨_, hstep, ?_, ?_, ⟨hstored.rxN, hstored.rxbuf⟩, ?_, hcount⟩
  · rw [e]; exact ⟨ho, hs, hin, hw, ht, hx⟩
  · rw [e]; exact ⟨h.toHoldsFrame.latch.txLen, h.toHoldsFrame.latch.txbuf⟩
  · rw [e]; simpa using hlen

/-- The peer sends the rest of the response. -/
theorem Receiving.run {got bs : List Byte} {n : Nat} {b : Byte}
    (h : Receiving frame got n (peerSendsCycles (b :: bs) ++ rest) w taken s) (hn : got.length + (b :: bs).length = n)
    (h255 : n ≤ 255) (hwin : n - 1 ≤ s.window.toNat) :
    ∃ t, Sys2Proof.core.run (b :: bs).length s = .next t ∧
      Validating frame (got ++ b :: bs) (Config.localLatency - 1) rest w taken t := by
  induction bs generalizing s got b with
  | nil =>
    obtain ⟨t, hst, ht⟩ := h.last hn h255
    exact ⟨t, run_succ_of_step 0 hst, ht⟩
  | cons c bs ih =>
    obtain ⟨t, hst, ht⟩ := h.next (by simp only [List.length_cons] at hn; omega) h255 hwin
    have hwt : t.window = s.window := by rw [State.window, State.window, ht.timeout, h.timeout]
    have hlen : (got ++ [b]).length + (c :: bs).length = n := by
      rw [← hn, List.length_append, List.length_singleton, List.length_cons (a := b)]; omega
    obtain ⟨u, hrun, hu⟩ := ih ht hlen (by rw [hwt]; exact hwin)
    rw [List.append_assoc] at hu
    exact ⟨u, (run_succ_of_step _ hst).trans hrun, hu⟩

/-! ### VALIDATED (R115) -/

/-- EXECUTE has ended with this response, after this frame. -/
structure Answered (frame resp : List Byte) (pending : List Ports) (w : Word) (taken : List Byte) (s : State) : Prop
    extends Running .idle pending w (taken ++ frame) s, HoldsFrame frame s where
  done    : s.done = true
  triple  : classify resp = ⟨s.outcome, s.failCause, s.result⟩
  rxCount : s.rxCount.toNat = resp.length
  rxbuf   : beginsWith s.rxbuf resp

theorem Validating.wait (h : Validating frame resp (k + 1) (Ports.quiet :: rest) w taken s) :
    ∃ t, Machine.step s = .next t ∧ Validating frame resp k rest w taken t := by
  obtain ⟨hstep, -, ho, hs, hi, hw, ht, hx⟩ := h.toRunning.step (by decide) rfl (.inl rfl)
  have hl : s.latch.lat = k + 1 := by rw [latch_lat, h.lat]
  refine ⟨waitCycle s.latch, ?_, ⟨ho, hs, hi, hw, ht, hx⟩, ?_, ?_, by simp [h.lat]⟩
  · rw [hstep, executeCycle_validated hs ho, validatedCycle_waits (by omega)]
  · exact ⟨h.toHoldsFrame.latch.txLen, h.toHoldsFrame.latch.txbuf⟩
  · exact ⟨h.toStored.latch.rxN, h.toStored.latch.rxbuf⟩

theorem Validating.conclude (h : Validating frame resp 0 (Ports.quiet :: rest) w taken s) :
    ∃ t, Machine.step s = .next t ∧ Answered frame resp rest w taken t := by
  obtain ⟨hstep, -, ho, hs, hi, hw, ht, hx⟩ := h.toRunning.step (by decide) rfl (.inl rfl)
  obtain ⟨hn, hb⟩ := h.toStored.latch
  obtain ⟨hlen, hbuf⟩ := h.toHoldsFrame.latch
  rw [executeCycle_validated hs ho, validatedCycle_ends hs (by rw [latch_lat, h.lat]),
    received_of_beginsWith _ resp hn.symm hb] at hstep
  exact ⟨_, hstep, ⟨ho, rfl, hi, hw, ht, hx⟩, ⟨hlen, hbuf⟩, rfl, rfl, hn, hb⟩

/-- VALIDATED ends with the classification of the response. -/
theorem Validating.run (h : Validating frame resp k (peerSilentCycles (k + 1) ++ rest) w taken s) :
    ∃ t, Sys2Proof.core.run (k + 1) s = .next t ∧ Answered frame resp rest w taken t := by
  induction k generalizing s with
  | zero =>
    obtain ⟨t, hst, ht⟩ := h.conclude
    exact ⟨t, run_succ_of_step 0 hst, ht⟩
  | succ k ih =>
    obtain ⟨t, hst, ht⟩ := h.wait
    obtain ⟨u, hrun, hu⟩ := ih ht
    exact ⟨u, (run_succ_of_step _ hst).trans hrun, hu⟩

/-! ### From the CMD write to the end -/

/-- The CMD write is accepted, and COMPUTE begins (R42). -/
theorem computing_of_hostStart (hs : s.seq = .idle) (hb : build s.func s.pcount s.slots.toList = .ok frame)
    (hin : s.inputs = hostStart .execute ++ rest) :
    ∃ t, step s = .next t ∧ Computing frame (Config.localLatency - 1) rest s.timeout s.taken t := by
  have hports : s.latch.ports = Ports.wr .cmd (Op.execute.code.setWidth 32) := by rw [latch_of_cons hin]
  have hbusy : s.latch.busy = false := (not_busy_iff _).2 (by simpa using hs)
  obtain ⟨haccept, -⟩ := cmdWriteAcceptedOrRejected s (by rw [hports]; rfl) (by rw [hports]; decide)
  refine ⟨_, haccept hbusy, ⟨?_, rfl, ?_, ?_, ?_, rfl⟩, rfl, ?_⟩
  · show Op.ofCode (s.latch.ports.busWdata.extractLsb' 0 3) = .execute
    rw [hports]; decide
  · simp [hin, hostStart]
  · simp
  · simp
  · simpa [State.builtFrame] using hb

end

/-- Settles O60: the runs through COMPUTE, FRAME_SENT, the two read states and VALIDATED, one after the other. -/
theorem executeEndToEnd : Obligations.ExecuteEndToEnd := by
  unfold Obligations.ExecuteEndToEnd
  intro s frame resp rest hs hbuild hhead h5 h255 hwin hin
  obtain ⟨l, hl⟩ : ∃ l, Config.localLatency = l + 1 := ⟨_, rfl⟩
  obtain ⟨hf5, hf73⟩ := build_length _ _ _ _ (slots_length s) hbuild
  obtain ⟨n, hn⟩ : ∃ n, frame.length = n + 1 := ⟨frame.length - 1, by omega⟩
  match resp, hhead with
  | b :: c :: bs, hhead =>
    have hb : b.toNat = (b :: c :: bs).length := by
      rw [Option.some.inj hhead]; exact toNat_len _ (by omega)
    simp only [hl, hn, List.append_assoc] at hin
    obtain ⟨t₁, hst₁, h₁⟩ := computing_of_hostStart hs hbuild hin
    rw [hl] at h₁
    obtain ⟨t₂, hrun₂, h₂⟩ := h₁.run
    obtain ⟨t₃, hrun₃, h₃⟩ := h₂.run hf73 (by omega)
    obtain ⟨t₄, hst₄, h₄⟩ := Awaiting.length (rest := peerSendsCycles (c :: bs) ++ (peerSilentCycles (l + 1) ++ rest)) h₃
      (by omega)
    have hw₄ : t₄.window = s.window := by rw [State.window, State.window, h₄.timeout]
    rw [hb] at h₄
    obtain ⟨t₅, hrun₅, h₅⟩ :=
      h₄.run (by simp only [List.length_cons, List.length_nil]; omega) h255 (by rw [hw₄]; exact hwin)
    rw [hl] at h₅
    obtain ⟨t, hrun, h⟩ := h₅.run
    refine ⟨t, ?_, h.seq, h.done, h.triple, h.rxCount, h.rxbuf, h.txLen, h.txbuf, h.taken, h.strayRx, h.inputs⟩
    calc Sys2Proof.core.run (1 + Config.localLatency + frame.length + (b :: c :: bs).length + Config.localLatency) s
        = Sys2Proof.core.run ((l + 1) + ((n + 1) + (((c :: bs).length + (l + 1)) + 1)) + 1) s := by
          congr 1; simp only [hl, hn, List.length_cons]; omega
      _ = Sys2Proof.core.run ((l + 1) + ((n + 1) + (((c :: bs).length + (l + 1)) + 1))) t₁ := run_succ_of_step _ hst₁
      _ = Sys2Proof.core.run ((n + 1) + (((c :: bs).length + (l + 1)) + 1)) t₂ := run_add _ hrun₂
      _ = Sys2Proof.core.run (((c :: bs).length + (l + 1)) + 1) t₃ := run_add _ hrun₃
      _ = Sys2Proof.core.run ((c :: bs).length + (l + 1)) t₄ := run_succ_of_step _ hst₄
      _ = Sys2Proof.core.run (l + 1) t₅ := run_add _ hrun₅
      _ = .next t := hrun

end Sys2Proof.Machine
end

section
/-! PROOFS. The encodings: decoding gives an encoded instruction back, and bits that decode are the encoding of what they
decode to. Each place an instruction's bits stand in has its two laws: the CMD word, the command word, the result code, the
group, the parameter area, and the two frames. -/

namespace Sys2Proof.Machine

/-! ### Bit fields -/

@[simp] theorem hiByte_append (a b : Byte) : hiByte (a ++ b) = a := BitVec.extractLsb'_append_eq_left

@[simp] theorem loByte_append (a b : Byte) : loByte (a ++ b) = b := BitVec.extractLsb'_append_eq_right

theorem be16_eq (w : BitVec 16) : be16 w = [hiByte w, loByte w] := rfl

theorem be16_append (a b : Byte) : be16 (a ++ b) = [a, b] := by rw [be16_eq, hiByte_append, loByte_append]

theorem be32_append (a b c d : Byte) : be32 (a ++ b ++ c ++ d) = [a, b, c, d] := by
  have h3 : (a ++ b ++ c ++ d).extractLsb' 24 8 = a :=
    (BitVec.extractLsb'_append_eq_of_le (by decide)).trans
      ((BitVec.extractLsb'_append_eq_of_le (by decide)).trans BitVec.extractLsb'_append_eq_left)
  have h2 : (a ++ b ++ c ++ d).extractLsb' 16 8 = b :=
    (BitVec.extractLsb'_append_eq_of_le (by decide)).trans
      ((BitVec.extractLsb'_append_eq_of_le (by decide)).trans BitVec.extractLsb'_append_eq_right)
  have h1 : (a ++ b ++ c ++ d).extractLsb' 8 8 = c :=
    (BitVec.extractLsb'_append_eq_of_le (by decide)).trans BitVec.extractLsb'_append_eq_right
  have h0 : (a ++ b ++ c ++ d).extractLsb' 0 8 = d := BitVec.extractLsb'_append_eq_right
  rw [be32, h3, h2, h1, h0]

/-- A header byte is its two nibbles (R66, R67). -/
theorem header_nibbles (h : Byte) : h = ((h.extractLsb' 4 4).setWidth 8 <<< 4) + (h.extractLsb' 0 4).setWidth 8 := by
  revert h; decide

/-! ### The operation, the command word and the result code -/

theorem Op.code_ofCode (c : BitVec 3) : (Op.ofCode c).code = c := by revert c; decide

theorem encode_operation (o : Op) : encode o.instr = .cmd (o.code.setWidth 32) := by cases o <;> rfl

theorem encode_decodeCmd (w : Word) : encode (decodeCmd w) = .cmd (w &&& 0x00000007) := by
  rw [decodeCmd_eq, encode_operation, Op.code_ofCode, setWidth_extract_low w 7 (by decide)]

theorem encode_decodeCommandWord (w : BitVec 16) : encode (decodeCommandWord w) = .commandWord w := by
  unfold decodeCommandWord
  split_ifs with h1 h2 h3 h4 h5 h6
  case neg => exact congrArg _ (append_high_low w)
  all_goals exact congrArg _ (Eq.symm ‹_›)

/-- A command word of no consumer call is CMDWORD's (R69; log entry 5). -/
theorem decodeCommandWord_append {fc : BitVec 12} {n : BitVec 4} (h : isFacadeWord fc n = false) :
    decodeCommandWord (fc ++ n) = .cmdword fc n := by
  have hne : ∀ fc', fc' ∈ facadeCodes → fc ++ n ≠ fc' ++ 1#4 := by
    intro fc' hmem heq
    have hfc := congrArg (BitVec.extractLsb' 4 12) heq
    have hn := congrArg (BitVec.extractLsb' 0 4) heq
    rw [high_append, high_append] at hfc
    rw [low_append, low_append] at hn
    subst hfc hn
    simp [isFacadeWord, hmem] at h
  unfold decodeCommandWord
  rw [high_append, low_append, if_neg (show fc ++ n ≠ 0x0101#16 from hne 0x010 (by decide)),
    if_neg (show fc ++ n ≠ 0x0111#16 from hne 0x011 (by decide)),
    if_neg (show fc ++ n ≠ 0x0211#16 from hne 0x021 (by decide)),
    if_neg (show fc ++ n ≠ 0x0311#16 from hne 0x031 (by decide)),
    if_neg (show fc ++ n ≠ 0x0411#16 from hne 0x041 (by decide)),
    if_neg (show fc ++ n ≠ 0x0511#16 from hne 0x051 (by decide))]

theorem encode_of_decodeResultCode {b : Byte} {i : Instr} (h : decodeResultCode b = .ok i) :
    encode i = .resultCode b := by
  unfold decodeResultCode at h
  split_ifs at h <;> cases h <;> exact congrArg _ (Eq.symm ‹_›)

/-! ### Groups (R66, R67) -/

theorem encode_group {i : Instr} (h : groupBytes i ≠ []) : encode i = .group (groupBytes i) := by
  cases i <;> simp only [groupBytes, ne_eq, not_true_eq_false] at h
  all_goals rfl

theorem decode_group {i : Instr} (h : groupBytes i ≠ []) : decode (.group (groupBytes i)) = .ok i := by
  have hrow := decodeGroup_row i [] h
  rw [List.append_nil] at hrow
  simp [decode, hrow]

/-- A lone row's bytes are the packer's (R66, R83). -/
theorem groupBytes_loneRow {t : IntType} {v : Word} {i : Instr} (h : loneRow ⟨tagOf t, v⟩ = some i) :
    groupBytes i = encodeParam t v := by
  simpa [packParams, areaBytes, h] using (packParams_eq [(t, v)]).symm

/-- A pair row's bytes are the packer's (R67, R84). -/
theorem groupBytes_pairRow {t1 t2 : IntType} {v1 v2 : Word} {i : Instr}
    (h : pairRow ⟨tagOf t1, v1⟩ ⟨tagOf t2, v2⟩ = some i) :
    groupBytes i = ((tagOf t1 <<< 4) + tagOf t2) :: (vbytes t1 v1 ++ vbytes t2 v2) := by
  rw [← mergeParam_encodeParam]
  simpa [packParams, areaBytes, h] using (packParams_eq [(t1, v1), (t2, v2)]).symm

theorem nibbleType_eq_some {n : BitVec 4} {t : IntType} (h : nibbleType n = some t) : n.setWidth 8 = tagOf t :=
  (typeOfTag_eq_some _ _).1 h

/-- The value read is the one whose bytes stand there (R65). -/
theorem takeValue_eq_some {t : IntType} {bs rest : List Byte} {v : Word} (h : takeValue t bs = some (v, rest)) :
    bs = vbytes t v ++ rest := by
  unfold takeValue at h
  split at h <;> cases h
  case h_1 a => rw [vbytes_uint8]; rfl
  case h_2 a b => rw [vbytes_uint16, be16_append]; rfl
  case h_3 a b c d => rw [vbytes_uint32, be32_append]; rfl

/-- A group that decodes is its row's bytes, with the rest behind them (R66, R67). -/
theorem eq_of_decodeGroup {bs rest : List Byte} {i : Instr} (h : decodeGroup bs = .ok (i, rest)) :
    bs = groupBytes i ++ rest := by
  unfold decodeGroup at h
  repeat' split at h
  all_goals cases h
  · next hd tl _ t1 ht1 hz _ v1 _ hrow hv1 =>
    rw [groupBytes_loneRow hrow, takeValue_eq_some hv1, header_nibbles hd, hz, nibbleType_eq_some ht1]
    simp [encodeParam]
  · next hd tl _ t1 ht1 _ _ t2 ht2 _ v1 rest1 hv1 _ v2 _ hrow hv2 =>
    rw [groupBytes_pairRow hrow, takeValue_eq_some hv1, takeValue_eq_some hv2, header_nibbles hd,
      nibbleType_eq_some ht1, nibbleType_eq_some ht2]
    simp

/-! ### The parameter area (R68) -/

theorem loneRow_of_rowParams {i : Instr} {p : Param} (h : groupBytes i ≠ []) (hp : rowParams i = [p]) :
    loneRow p = some i := by
  cases i <;> simp only [groupBytes, ne_eq, not_true_eq_false] at h <;> cases hp
  all_goals simp [loneRow, typeOfTag]

theorem pairRow_of_rowParams {i : Instr} {p q : Param} (h : groupBytes i ≠ []) (hp : rowParams i = [p, q]) :
    pairRow p q = some i := by
  cases i <;> simp only [groupBytes, ne_eq, not_true_eq_false] at h <;> cases hp
  all_goals simp [pairRow, typeOfTag]

/-- An area that decodes is the area of its parameters. -/
theorem eq_of_decodeArea {n : Nat} {bs : List Byte} {ps : List Param} (h : decodeArea n bs = .ok ps) :
    bs = areaBytes ps := by
  induction n using Nat.twoStepInduction generalizing bs ps with
  | zero => cases bs <;> cases h; rfl
  | one =>
    rw [decodeArea] at h
    repeat' split at h
    all_goals cases h
    next hp hg =>
    rw [eq_of_decodeGroup hg, areaBytes, loneRow_of_rowParams (decodeGroup_group hg) hp]
    simp
  | more n ih _ =>
    rw [decodeArea] at h
    repeat' split at h
    all_goals cases h
    next hg _ _ _ hp _ _ hrest =>
    rw [eq_of_decodeGroup hg, areaBytes, pairRow_of_rowParams (decodeGroup_group hg) hp, ih hrest]
    rfl

/-! ### Frames (R70, R71) -/

/-- The residual is zero exactly behind the sequence's own CRC (R93). -/
theorem crc16_append_two_eq_zero (m : List Byte) (a b : Byte) : crc16 (m ++ [a, b]) = 0 ↔ m ++ [a, b] = withCrc m := by
  have hword : crc16 (m ++ [a, b]) = crcShifts 16 (crc16 m ^^^ (a ++ b)) := by
    rw [crc16_append, ← crcUpdate_two, hiByte_append, loByte_append]; rfl
  rw [hword, crcShifts_eq_zero, show (0 : BitVec 16) = 0#16 from rfl, BitVec.xor_eq_zero_iff, withCrc,
    List.append_cancel_left_eq]
  constructor
  · intro h; rw [h, hiByte_append, loByte_append]
  · intro h
    simp only [List.cons.injEq, and_true] at h
    rw [h.1, h.2, hiByte_append_loByte]

theorem exists_append_two {l : List Byte} (h : 2 ≤ l.length) : ∃ m a b, l = m ++ [a, b] := by
  obtain ⟨a, b, hab⟩ := List.length_eq_two.1 (show (l.drop (l.length - 2)).length = 2 by rw [List.length_drop]; omega)
  exact ⟨l.take (l.length - 2), a, b, by rw [← hab, List.take_append_drop]⟩

/-- The frames that pass the checks are those of the response format, whatever their payload means (R71). -/
theorem checkFrame_eq_ok_iff (bs : List Byte) :
    checkFrame bs = .ok () ↔ ∃ payload, (Instr.responseFrame payload).wellFormed = true ∧ bs = responseBytes payload := by
  simp only [Instr.wellFormed, Bool.and_eq_true, decide_eq_true_eq]
  constructor
  · intro h
    obtain ⟨h5, h255⟩ := checkFrame_length h
    unfold checkFrame at h
    split at h
    · cases h
    · next len rest =>
      split_ifs at h with _ hlen hcrc
      rw [not_not] at hlen hcrc
      rw [List.length_cons] at h5 h255 hlen
      obtain ⟨payload, a, b, rfl⟩ := exists_append_two (l := rest) (by omega)
      simp only [List.length_append, List.length_cons, List.length_nil] at h5 h255 hlen
      refine ⟨payload, by omega, ?_⟩
      have hlen8 : BitVec.ofNat 8 (1 + payload.length + 2) = len := by
        apply BitVec.eq_of_toNat_eq; rw [toNat_len _ (by omega)]; omega
      rw [responseBytes, hlen8]
      exact (crc16_append_two_eq_zero (len :: payload) a b).1 hcrc
  · rintro ⟨payload, ⟨h2, h252⟩, rfl⟩
    exact checkFrame_withCrc _ _ (by rw [toNat_len _ (by omega)]; omega) h2

theorem payload_responseBytes (payload : List Byte) :
    ((responseBytes payload).take ((responseBytes payload).length - 2)).drop 1 = payload := by
  rw [responseBytes, take_withCrc]; rfl

theorem decodeResponse_responseBytes {payload : List Byte} (h : (Instr.responseFrame payload).wellFormed = true) :
    decodeResponse (responseBytes payload) = .ok (.responseFrame payload) := by
  rw [decodeResponse, (checkFrame_eq_ok_iff _).2 ⟨payload, h, rfl⟩, payload_responseBytes]

/-- A request frame is a response frame's bytes with the command word and the area for payload (R70, R71). -/
theorem requestBytes_eq (fc : BitVec 12) (ps : List Param) :
    requestBytes fc ps = responseBytes (be16 (fc ++ BitVec.ofNat 4 ps.length) ++ areaBytes ps) := by
  rw [requestBytes, responseBytes, List.length_append, be16_eq, List.length_cons, List.length_singleton]
  congr 3
  omega

/-- A frame that passes the checks is a request frame where its area decodes (R70). -/
theorem decodeRequest_responseBytes (cw : BitVec 16) {area : List Byte} (h : area.length ≤ 250) :
    decodeRequest (responseBytes (be16 cw ++ area)) =
      (decodeArea (cw.extractLsb' 0 4).toNat area).map (.requestFrame (cw.extractLsb' 4 12)) := by
  have hw : (Instr.responseFrame (be16 cw ++ area)).wellFormed = true := by
    simp only [Instr.wellFormed, be16_eq, List.length_append, List.length_cons, List.length_nil, Bool.and_eq_true,
      decide_eq_true_eq]
    omega
  have hcw : (responseBytes (be16 cw ++ area)).getD 1 0 ++ (responseBytes (be16 cw ++ area)).getD 2 0 = cw :=
    append_slices16 cw
  have harea : ((responseBytes (be16 cw ++ area)).take ((responseBytes (be16 cw ++ area)).length - 2)).drop 3 = area := by
    rw [responseBytes, take_withCrc]; rfl
  rw [decodeRequest, (checkFrame_eq_ok_iff _).2 ⟨_, hw, rfl⟩]
  simp only [hcw, harea]
  cases decodeArea (cw.extractLsb' 0 4).toNat area <;> rfl

theorem decodeRequest_requestBytes {fc : BitVec 12} {ps : List Param}
    (h : (Instr.requestFrame fc ps).wellFormed = true) : decodeRequest (requestBytes fc ps) = .ok (.requestFrame fc ps) := by
  simp only [Instr.wellFormed, Bool.and_eq_true, decide_eq_true_eq] at h
  obtain ⟨hlen, hvalid⟩ := h
  have harea := areaBytes_length ps hvalid
  have hn : (BitVec.ofNat 4 ps.length).toNat = ps.length := by rw [BitVec.toNat_ofNat]; omega
  rw [requestBytes_eq, decodeRequest_responseBytes _ (by omega), low_append, high_append, hn,
    decodeArea_areaBytes ps hvalid]
  rfl

theorem encode_of_decodeResponse {bs : List Byte} {i : Instr} (h : decodeResponse bs = .ok i) :
    encode i = .response bs := by
  unfold decodeResponse at h
  split at h
  · cases h
  · next hc =>
    obtain ⟨payload, -, rfl⟩ := (checkFrame_eq_ok_iff bs).1 hc
    rw [payload_responseBytes] at h
    cases h; rfl

theorem checkFrame_of_decodeRequest {bs : List Byte} {i : Instr} (h : decodeRequest bs = .ok i) :
    checkFrame bs = .ok () := by
  unfold decodeRequest at h
  split at h
  · cases h
  · assumption

theorem encode_of_decodeRequest {bs : List Byte} {i : Instr} (h : decodeRequest bs = .ok i) :
    encode i = .request bs := by
  obtain ⟨payload, hw, rfl⟩ := (checkFrame_eq_ok_iff bs).1 (checkFrame_of_decodeRequest h)
  simp only [Instr.wellFormed, Bool.and_eq_true, decide_eq_true_eq] at hw
  match payload with
  | [] | [_] => simp at hw
  | a :: b :: area =>
    simp only [List.length_cons] at hw
    have hpayload : a :: b :: area = be16 (a ++ b) ++ area := by rw [be16_append]; rfl
    rw [hpayload] at h ⊢
    rw [decodeRequest_responseBytes _ (by omega)] at h
    cases harea : decodeArea ((a ++ b).extractLsb' 0 4).toNat area with
    | error e => rw [harea] at h; cases h
    | ok ps =>
      rw [harea] at h
      cases h
      rw [encode, requestBytes_eq, (decodeArea_valid harea).1, BitVec.ofNat_toNat, BitVec.setWidth_eq,
        append_high_low, ← eq_of_decodeArea harea]

/-! ### The statements -/

/-- Settles O1: each place an encoding stands in decodes it back. -/
theorem decodeInvertsEncode : Obligations.DecodeInvertsEncode := by
  unfold Obligations.DecodeInvertsEncode
  intro i hw
  cases i
  case cmdword => exact congrArg _ (decodeCommandWord_append (by simpa [Instr.wellFormed] using hw))
  case requestFrame => exact decodeRequest_requestBytes hw
  case responseFrame => exact decodeResponse_responseBytes hw
  case paramUint8 | paramUint16 | paramUint32 | pairUint8Uint8 | pairUint8Uint16 | pairUint8Uint32 | pairUint16Uint8
      | pairUint16Uint16 | pairUint16Uint32 | pairUint32Uint8 | pairUint32Uint16 | pairUint32Uint32 =>
    exact decode_group (List.cons_ne_nil _ _)
  all_goals rfl

/-- Settles O2: each place's bits that decode are the encoding of what they decode to. -/
theorem encodeInvertsDecode : Obligations.EncodeInvertsDecode := by
  unfold Obligations.EncodeInvertsDecode
  intro c i h
  cases c with
  | cmd w =>
    cases h
    refine ⟨?_, .inl ⟨w, rfl, encode_decodeCmd w⟩⟩
    rw [decodeCmd_eq]; exact operation_wellFormed _
  | commandWord w => cases h; exact ⟨decodeCommandWord_wellFormed w, .inr (encode_decodeCommandWord w)⟩
  | group bs =>
    rw [decode] at h
    split at h <;> cases h
    next hg =>
    have hne := decodeGroup_group hg
    refine ⟨(group_wellFormed hne).1, .inr ?_⟩
    rw [encode_group hne, eq_of_decodeGroup hg, List.append_nil]
  | request bs => exact ⟨decodeRequest_wellFormed h, .inr (encode_of_decodeRequest h)⟩
  | response bs => exact ⟨decodeResponse_wellFormed h, .inr (encode_of_decodeResponse h)⟩
  | resultCode b => exact ⟨decodeResultCode_wellFormed h, .inr (encode_of_decodeResultCode h)⟩

/-- Settles O3: eight words decode by the tables, and the two frames are the encodings of their instructions. -/
theorem sampleWordsDecode : Obligations.SampleWordsDecode := by
  unfold Obligations.SampleWordsDecode
  have hrequest : encode (.requestFrame 0x010 [⟨0x01, 0x00000001⟩]) =
      .request [0x07, 0x01, 0x01, 0x10, 0x01, 0xB5, 0xA3] := by decide +kernel
  have hresponse : encode (.responseFrame [0x00, 0x11, 0x10, 0x01]) =
      .response [0x07, 0x00, 0x11, 0x10, 0x01, 0xCC, 0x08] := by decide +kernel
  refine ⟨rfl, rfl, rfl, rfl, rfl, rfl, rfl, rfl, ?_, ?_⟩
  · rw [← hrequest]; exact decodeInvertsEncode _ rfl
  · rw [← hresponse]; exact decodeInvertsEncode _ rfl

end Sys2Proof.Machine
end

section
/-! PROOFS. The wire format: the merged pair and the built frame against the tables, what classify answers test by test, and
the rows of the wire formats in the cycles of the block that produce or parse them. -/

namespace Sys2Proof.Machine

/-! ### The merged pair and the request frame (R67, R70) -/

theorem tagOf_of_valid {p : Param} (h : p.valid = true) : ∃ t, p = ⟨tagOf t, p.value⟩ := by
  obtain ⟨t, ht, -⟩ := (paramError_none p).1 ((valid_eq p).1 h)
  exact ⟨t, by rw [← ht]⟩

/-- A pair's header byte holds the two tags in its nibbles and is one of nine (R67). -/
theorem pairHeader_tags (t1 t2 : IntType) :
    (((tagOf t1 <<< 4) + tagOf t2).extractLsb' 4 4).setWidth 8 = tagOf t1 ∧
    (((tagOf t1 <<< 4) + tagOf t2).extractLsb' 0 4).setWidth 8 = tagOf t2 ∧
    (tagOf t1 <<< 4) + tagOf t2 ∈ [0x11#8, 0x12#8, 0x13#8, 0x21#8, 0x22#8, 0x23#8, 0x31#8, 0x32#8, 0x33#8] := by
  cases t1 <;> cases t2 <;> decide

/-- Settles O4: the pair's row has the packer's bytes, and those have the format. -/
theorem pairFormat : Obligations.PairFormat := by
  unfold Obligations.PairFormat
  intro p q hp hq
  obtain ⟨i, hrow, -, -, h3, h9⟩ := pairRow_valid p q hp hq
  obtain ⟨t1, hp1⟩ := tagOf_of_valid hp
  obtain ⟨t2, hq2⟩ := tagOf_of_valid hq
  rw [hp1, hq2] at hrow ⊢
  have hbytes := groupBytes_pairRow hrow
  obtain ⟨hhigh, hlow, hmem⟩ := pairHeader_tags t1 t2
  refine ⟨t1, t2, i, typeOfTag_tagOf t1, typeOfTag_tagOf t2, hrow, hbytes, hhigh, hlow, hmem, ?_, h3, h9⟩
  rw [hbytes, List.length_cons, List.length_append, vbytes_length, vbytes_length]
  omega

/-- What build answers, written out: length byte, command word of FUNC and PCOUNT, area, CRC (R70, R98). -/
theorem build_ok_eq_withCrc {fc : BitVec 12} {n : BitVec 8} {slots : List Param} {f : List Byte} (hs : slots.length = 15)
    (h : build fc n slots = .ok f) :
    f = withCrc (BitVec.ofNat 8 (1 + 2 + (areaBytes (slots.take n.toNat)).length + 2) ::
      (be16 (fc ++ n.setWidth 4) ++ areaBytes (slots.take n.toNat))) := by
  obtain ⟨hn, -, rfl⟩ := (build_ok fc n slots f hs).1 h
  have hcount : BitVec.ofNat 4 (slots.take n.toNat).length = n.setWidth 4 := by
    rw [List.length_take, hs, Nat.min_eq_left hn, BitVec.ofNat_toNat]
  rw [requestBytes, hcount]

/-- Settles O16: the checks build makes are those of a valid request, and its bytes are the encoder's. -/
theorem buildGivesTheRequestFormat : Obligations.BuildGivesTheRequestFormat := by
  unfold Obligations.BuildGivesTheRequestFormat
  intro fc n slots f h
  have hs : slots.toList.length = 15 := by simp
  obtain ⟨-, -, hf⟩ := (build_ok fc n _ f hs).1 h
  exact ⟨build_ok_eq_withCrc hs h, hf⟩

/-! ### The tests of classify (R107) -/

theorem classify_lengthTooSmall {len : Byte} {rest : List Byte} (h : len.toNat < 5) :
    classify (len :: rest) = ⟨.responseCrcError, .lengthTooSmall, 0x00⟩ := by
  simp only [classify, if_pos h]

theorem classify_truncated {len : Byte} {rest : List Byte} (h5 : 5 ≤ len.toNat)
    (h : (len :: rest).length < len.toNat) : classify (len :: rest) = ⟨.responseCrcError, .truncated, 0x00⟩ := by
  simp only [classify, if_neg (Nat.not_lt.2 h5), if_pos h]

theorem classify_crcMismatch {len : Byte} {rest : List Byte} (h5 : 5 ≤ len.toNat)
    (hl : len.toNat ≤ (len :: rest).length) (h : crc16 ((len :: rest).take len.toNat) ≠ 0x0000#16) :
    classify (len :: rest) = ⟨.responseCrcError, .crcMismatch, 0x00⟩ := by
  simp only [classify, if_neg (Nat.not_lt.2 h5), if_neg (Nat.not_lt.2 hl), if_pos h]

theorem statusByte_take {buf : List Byte} {n : Nat} {b : Byte} (hn : 5 ≤ n) (h : buf[2]? = some b) :
    statusByte (buf.take n) = b := by
  rw [statusByte, List.getD_eq_getElem?_getD, List.getElem?_take_of_lt (by omega), h]; rfl

theorem errorCodeByte_take {buf : List Byte} {n : Nat} {b : Byte} (hn : 5 ≤ n) (h : buf[4]? = some b) :
    errorCodeByte (buf.take n) = b := by
  rw [errorCodeByte, List.getD_eq_getElem?_getD, List.getElem?_take_of_lt (by omega), h]; rfl

/-- An intact response is classified by its status byte, its length and its error-code byte (R72, R107). -/
theorem classify_intact {len b : Byte} {rest : List Byte} (h5 : 5 ≤ len.toNat) (hl : len.toNat ≤ (len :: rest).length)
    (hc : crc16 ((len :: rest).take len.toNat) = 0x0000#16) (hb : (len :: rest)[2]? = some b) :
    (b = 0x00 → classify (len :: rest) = ⟨.protocol, .none, 0x00⟩) ∧
    (b ≠ 0x00 → len.toNat < 7 → classify (len :: rest) = ⟨.responseCrcError, .noCodeByte, 0x00⟩) ∧
    (∀ c, b ≠ 0x00 → 7 ≤ len.toNat → (len :: rest)[4]? = some c →
      (c ∈ resultCodes → classify (len :: rest) = ⟨.protocol, .none, c⟩) ∧
      (c ∉ resultCodes → classify (len :: rest) = ⟨.unknownCode, .none, c⟩)) := by
  simp only [classify, if_neg (Nat.not_lt.2 h5), if_neg (Nat.not_lt.2 hl), if_neg (not_not.2 hc),
    statusByte_take h5 hb]
  refine ⟨fun h0 => by rw [if_pos h0], fun h0 h7 => by rw [if_neg h0, if_pos h7], fun c h0 h7 hcode => ?_⟩
  rw [if_neg h0, if_neg (Nat.not_lt.2 h7), errorCodeByte_take h5 hcode]
  exact ⟨fun hmem => by rw [if_pos hmem], fun hmem => by rw [if_neg hmem]⟩

/-- classify looks at the length byte, at the bytes it names, and at whether they are all there (R108). -/
theorem classify_cons_congr {len : Byte} {rest rest' : List Byte}
    (hl : (len :: rest).length < len.toNat ↔ (len :: rest').length < len.toNat)
    (ht : (len :: rest).take len.toNat = (len :: rest').take len.toNat) :
    classify (len :: rest) = classify (len :: rest') := by
  simp only [classify, hl, ht]

theorem classify_take (len : Byte) (rest : List Byte) :
    classify (len :: rest) = classify ((len :: rest).take (max 1 len.toNat)) := by
  obtain ⟨n, hn⟩ : ∃ n, max 1 len.toNat = n + 1 := ⟨max 1 len.toNat - 1, by omega⟩
  rw [hn, List.take_succ_cons]
  refine classify_cons_congr ?_ ?_
  · simp only [List.length_cons, List.length_take]; omega
  · rw [← List.take_succ_cons, List.take_take, Nat.min_eq_left (by omega)]

/-- A protocol result comes of bytes that carry its code (R107, R109). -/
theorem carriedCode_of_classify {buf : List Byte} {c : Byte} (h : classify buf = ⟨.protocol, .none, c⟩) :
    carriedCode buf = some c ∧ c ∈ resultCodes := by
  unfold classify at h
  unfold carriedCode
  split at h
  · cases h
  · next len rest =>
    dsimp only at h ⊢
    split_ifs at h with h5 hl hc hs h7 hmem <;> cases h
    all_goals
      have hlen : 5 ≤ len.toNat ∧ len.toNat ≤ (len :: rest).length := by omega
      rw [if_pos (by simp only [Bool.and_eq_true, decide_eq_true_eq, beq_iff_eq]; exact ⟨hlen, not_not.1 hc⟩)]
    · exact ⟨if_pos hs, by decide⟩
    · exact ⟨by rw [if_neg hs, if_pos (by omega)], hmem⟩

/-- Settles O21: the tests in their order, then what they read, then a protocol result against the code carried. -/
theorem classifyReadsTheFrameAndItsCode : Obligations.ClassifyReadsTheFrameAndItsCode := by
  unfold Obligations.ClassifyReadsTheFrameAndItsCode
  refine ⟨rfl, fun len rest => ?_, classify_take, fun buf c => ?_⟩
  · refine ⟨classify_lengthTooSmall, classify_truncated, classify_crcMismatch, fun h5 hl hc => ?_⟩
    obtain ⟨b, hb⟩ : ∃ b, (len :: rest)[2]? = some b := ⟨_, List.getElem?_eq_getElem (by omega)⟩
    simpa only [hb, Option.some.injEq, ne_eq] using classify_intact h5 hl hc hb
  · exact ⟨carriedCode_of_classify, fun ⟨h, hc⟩ => carried_classify buf c h hc⟩

/-! ### The ends of an operation, in the terms of the statements -/

theorem txbufBecomes_writeTx {bytes : List Byte} (h : bytes.length ≤ Config.txbufSize) (s : State) :
    txbufBecomes bytes s (writeTx bytes s) := by
  intro i
  rw [writeTx, Memory.byte?_writeAll _ _ _ _ _ (by omega)]
  simp

theorem produced_produce {bytes : List Byte} (h : bytes.length ≤ Config.txbufSize) (s : State) :
    Produced bytes s (produce bytes s) := ⟨rfl, txbufBecomes_writeTx h s⟩

theorem transmits_startTransmit {frame : List Byte} (h : frame.length ≤ Config.txbufSize) (s : State) :
    Transmits frame s (startTransmit frame s) := ⟨rfl, txbufBecomes_writeTx h s⟩

theorem emitted_emitFrame {frame : List Byte} (h : frame.length ≤ Config.txbufSize) (s : State) :
    Emitted frame s (emitFrame frame s) := by
  refine ⟨fun ho => ?_, fun ho => ?_⟩
  · rw [emitFrame, if_neg (by simp [ho])]; exact produced_produce h s
  · rw [emitFrame, if_pos ho]; exact transmits_startTransmit h s

theorem rejected_raise (e : Precondition) (s : State) : Rejected e.code e.slot s (raise e s) := rfl

theorem classified_concludeTest (c : Classification) (s : State) : Classified c s (concludeTest c s) := by
  unfold Classified concludeTest
  split <;> rfl

/-! ### The rows the packer produces (R66, R67) -/

theorem exec_group {i : Instr} (h : groupBytes i ≠ []) (s : State) : exec i s = .next (groupCycle i s) := by
  cases i <;> simp only [groupBytes, ne_eq, not_true_eq_false] at h
  all_goals rfl

theorem groupBytes_length_le (i : Instr) : (groupBytes i).length ≤ 9 := by
  cases i <;> simp [groupBytes, be16, be32]

theorem exec_of_producesGroup {i : Instr} {s : State} (hne : groupBytes i ≠ []) (h : producesGroup i s = true) :
    ∃ t, exec i s = .next t ∧ Produced (groupBytes i) s t := by
  refine ⟨groupCycle i s, exec_group hne s, ?_⟩
  rw [groupCycle, if_pos h]
  exact produced_produce ((groupBytes_length_le i).trans (by decide)) s

theorem lone_produced {i : Instr} {p : Param} {s : State} (hi : rowParams i = [p]) (hne : groupBytes i ≠ [])
    (hp : s.performing .encode = true) (h0 : s.slot 0 = p) :
    ∃ t, exec i s = .next t ∧ Produced (groupBytes i) s t :=
  exec_of_producesGroup hne (by simp [producesGroup, hi, hp, h0])

theorem pair_produced {i : Instr} {p q : Param} {s : State} (hi : rowParams i = [p, q]) (hne : groupBytes i ≠ [])
    (hp : s.performing .merge = true) (h0 : s.slot 0 = p) (h1 : s.slot 1 = q) :
    ∃ t, exec i s = .next t ∧ Produced (groupBytes i) s t :=
  exec_of_producesGroup hne (by simp [producesGroup, hi, hp, h0, h1])

/-- Settles O8: each row's parameter stands in slot 0, so its bytes are produced. -/
theorem loneParameterRows : Obligations.LoneParameterRows := by
  unfold Obligations.LoneParameterRows
  intro s hp
  exact ⟨fun v => lone_produced (i := .paramUint8 v) rfl (List.cons_ne_nil _ _) hp,
    fun v => lone_produced (i := .paramUint16 v) rfl (List.cons_ne_nil _ _) hp,
    fun v => lone_produced (i := .paramUint32 v) rfl (List.cons_ne_nil _ _) hp⟩

/-- Settles O9: each row's two parameters stand in slots 0 and 1, so its bytes are produced. -/
theorem pairRows : Obligations.PairRows := by
  unfold Obligations.PairRows
  intro s hp
  exact ⟨fun a b => pair_produced (i := .pairUint8Uint8 a b) rfl (List.cons_ne_nil _ _) hp,
    fun a b => pair_produced (i := .pairUint8Uint16 a b) rfl (List.cons_ne_nil _ _) hp,
    fun a b => pair_produced (i := .pairUint8Uint32 a b) rfl (List.cons_ne_nil _ _) hp,
    fun a b => pair_produced (i := .pairUint16Uint8 a b) rfl (List.cons_ne_nil _ _) hp,
    fun a b => pair_produced (i := .pairUint16Uint16 a b) rfl (List.cons_ne_nil _ _) hp,
    fun a b => pair_produced (i := .pairUint16Uint32 a b) rfl (List.cons_ne_nil _ _) hp,
    fun a b => pair_produced (i := .pairUint32Uint8 a b) rfl (List.cons_ne_nil _ _) hp,
    fun a b => pair_produced (i := .pairUint32Uint16 a b) rfl (List.cons_ne_nil _ _) hp,
    fun a b => pair_produced (i := .pairUint32Uint32 a b) rfl (List.cons_ne_nil _ _) hp⟩

/-! ### The rows the builder produces (R69, R70, R78) -/

/-- The builder's cycle, on FUNC and PCOUNT that hold a command word, whatever its function code (R78). -/
theorem commandWordCycle_outcome {s : State} {fc : BitVec 12} {n : BitVec 4}
    (h : s.buildingFor fc (n.setWidth 8) = true) :
    (∀ e, build fc (n.setWidth 8) s.slots.toList = .error e → Rejected e.code e.slot s (commandWordCycle fc n s)) ∧
    (∀ f, build fc (n.setWidth 8) s.slots.toList = .ok f →
      Emitted f s (commandWordCycle fc n s) ∧ (f.drop 1).take 2 = be16 (fc ++ n)) := by
  rw [commandWordCycle, if_pos h]
  refine ⟨fun e hb => ?_, fun f hb => ?_⟩
  · rw [hb]; exact rejected_raise e s
  · rw [hb]
    refine ⟨emitted_emitFrame (build_length _ _ _ _ (slots_length s) hb).2 s, ?_⟩
    have hn : (n.setWidth 8).setWidth 4 = n := by simp
    rw [build_ok_eq_withCrc (slots_length s) hb, hn]; rfl

/-- Settles O19: each of the seven rows is the builder's cycle on its command word. -/
theorem commandWordRows : Obligations.CommandWordRows := by
  unfold Obligations.CommandWordRows
  intro s fc n h
  have hout := commandWordCycle_outcome h
  refine ⟨⟨_, rfl, hout⟩, ?_, ?_, ?_, ?_, ?_, ?_⟩ <;> (rintro ⟨rfl, rfl⟩; exact ⟨_, rfl, hout⟩)

/-- A well-formed request frame fits TXBUF (R102). -/
theorem requestBytes_length_le {fc : BitVec 12} {ps : List Param} (h : (Instr.requestFrame fc ps).wellFormed = true) :
    (requestBytes fc ps).length ≤ Config.txbufSize := by
  simp only [Instr.wellFormed, Bool.and_eq_true, decide_eq_true_eq] at h
  have := areaBytes_length ps h.2
  rw [requestBytes_length, Config.txbufSize]
  omega

/-- Settles O20: the builder produces the frame, which fits TXBUF. -/
theorem requestFrameRow : Obligations.RequestFrameRow := by
  unfold Obligations.RequestFrameRow
  intro s fc ps hw hb htake
  have hp : producesFrame fc ps s = true := by simp [producesFrame, hw, hb, htake]
  refine ⟨emitFrame (requestBytes fc ps) s, ?_, emitted_emitFrame (requestBytes_length_le hw) s⟩
  rw [exec, execRequestFrame, if_pos hp]

/-! ### The rows the validator parses (R71, R72, R74) -/

/-- What a payload with a status byte means, by that byte, its length and its error-code byte (R72). -/
theorem payloadMeaning_cases {payload : List Byte} {b : Byte} (hb : payload[1]? = some b) :
    (b = 0x00 → payloadMeaning payload = ⟨.protocol, .none, 0x00⟩) ∧
    (b ≠ 0x00 → payload.length < 4 → payloadMeaning payload = ⟨.responseCrcError, .noCodeByte, 0x00⟩) ∧
    (∀ c, b ≠ 0x00 → payload[3]? = some c → c ∈ resultCodes → payloadMeaning payload = ⟨.protocol, .none, c⟩) ∧
    (∀ c, b ≠ 0x00 → payload[3]? = some c → c ∉ resultCodes → payloadMeaning payload = ⟨.unknownCode, .none, c⟩) := by
  have hstatus : payload.getD 1 0 = b := by rw [List.getD_eq_getElem?_getD, hb]; rfl
  have hcode : ∀ c, payload[3]? = some c → ¬ payload.length < 4 ∧ payload.getD 3 0 = c := by
    intro c hc
    obtain ⟨h3, -⟩ := List.getElem?_eq_some_iff.1 hc
    exact ⟨by omega, by rw [List.getD_eq_getElem?_getD, hc]; rfl⟩
  unfold payloadMeaning
  rw [hstatus]
  refine ⟨fun h0 => by rw [if_pos h0], fun h0 h4 => by rw [if_neg h0, if_pos h4], fun c h0 hc hmem => ?_,
    fun c h0 hc hmem => ?_⟩
  all_goals obtain ⟨h4, hc⟩ := hcode c hc
  · rw [if_neg h0, if_neg h4, hc, if_pos hmem]
  · rw [if_neg h0, if_neg h4, hc, if_neg hmem]

/-- Settles O29: the operation completes with the payload's meaning. -/
theorem responseFrameRow : Obligations.ResponseFrameRow := by
  unfold Obligations.ResponseFrameRow
  intro s payload buf hw hu htake
  have hexec : exec (.responseFrame payload) s = .next (concludeTest (payloadMeaning payload) s) := by
    rw [exec, execResponseFrame, hu]; simp [hw, htake]
  obtain ⟨b, hb⟩ : ∃ b, payload[1]? = some b := by
    simp only [Instr.wellFormed, Bool.and_eq_true, decide_eq_true_eq] at hw
    exact ⟨_, List.getElem?_eq_getElem (by omega)⟩
  have hend := classified_concludeTest (payloadMeaning payload) s
  obtain ⟨hok, hnone, hcode, hunknown⟩ := payloadMeaning_cases hb
  simp only [hb, Option.some.injEq, ne_eq]
  refine ⟨_, hexec, fun h0 => hok h0 ▸ hend, fun h0 h4 => hnone h0 h4 ▸ hend, fun c h0 hc hm => hcode c h0 hc hm ▸ hend,
    fun c h0 hc hm => hunknown c h0 hc hm ▸ hend⟩

/-- A result code's row completes the operation with the code it carries (R74, R122). -/
theorem classified_resultCodeCycle {s : State} {buf : List Byte} {c : Byte} (hu : s.underTest = some buf)
    (hc : carriedCode buf = some c) : Classified ⟨.protocol, .none, c⟩ s (resultCodeCycle c s) := by
  rw [resultCodeCycle, hu]
  simp only [if_pos hc]
  exact classified_concludeTest _ s

/-- Settles O30: each of the nine rows is the cycle of its code. -/
theorem resultCodeRows : Obligations.ResultCodeRows := by
  unfold Obligations.ResultCodeRows
  intro s buf c hu hc
  have hend := classified_resultCodeCycle hu hc
  refine ⟨?_, ?_, ?_, ?_, ?_, ?_, ?_, ?_, ?_⟩ <;> (rintro rfl; exact ⟨_, rfl, hend⟩)

/-! ### A step and the row it handles -/

/-- Settles O33: the step is the operation in progress, which means what the row means. -/
theorem stepRunsTheRowItHandles : Obligations.StepRunsTheRowItHandles := by
  unfold Obligations.StepRunsTheRowItHandles
  intro s i hr hh
  have hb : s.latch.busy = true := handles_busy _ _ hh
  have hports : handles i (portSide s.latch) = true := (handles_ports _ _ hb).trans hh
  rw [step_busy s hr ((latch_busy s).symm.trans hb), exec_of_handles hports, portSide_op, latch_op]

end Sys2Proof.Machine
end

section
/-! PROOFS. The parameter-packer: its checks on every tag and value, and what ENCODE and MERGE complete with. -/

namespace Sys2Proof.Machine

/-! ### The checks of a parameter (R80, R81, R82) -/

theorem checkType_of_typeOfTag {t : Byte} {ty : IntType} (h : typeOfTag t = some ty) (slot : BitVec 4) :
    checkType t slot = .ok ty := by rw [checkType, h]

theorem checkType_unsupported {t : Byte} (h : typeOfTag t = none) (slot : BitVec 4) :
    checkType t slot = .error ⟨.unsupportedType, slot⟩ := by rw [checkType, h]

theorem toNat_le_typeMax_uint32 (v : Word) : v.toNat ≤ typeMax .uint32 := by
  have := v.isLt
  rw [typeMax]
  omega

/-- check_range compares with the type's maximum, which no UINT32 value exceeds (R81). -/
theorem checkRange_eq (ty : IntType) (v : Word) (slot : BitVec 4) :
    checkRange ty v slot = if typeMax ty < v.toNat then .error ⟨.valueRange, slot⟩ else .ok () := by
  cases ty with
  | uint8 => rfl
  | uint16 => rfl
  | uint32 => rw [if_neg (toNat_le_typeMax_uint32 v).not_gt, checkRange]

theorem checkParam_of_paramError {p : Param} {c : PreErr} (h : paramError p = some c) (slot : BitVec 4) :
    checkParam p slot = .error ⟨c, slot⟩ := (checkParam_error p slot _).2 ⟨c, h, rfl⟩

theorem checkParam_of_paramError_none {p : Param} {ty : IntType} (h : paramError p = none)
    (ht : typeOfTag p.tag = some ty) (slot : BitVec 4) : checkParam p slot = .ok ty := by
  obtain ⟨ty', htag, hle⟩ := (paramError_none p).1 h
  rw [htag, typeOfTag_tagOf, Option.some.injEq] at ht
  exact (checkParam_ok p slot ty).2 (ht ▸ ⟨htag, hle⟩)

theorem encodeParam_ne_nil (ty : IntType) (v : Word) : encodeParam ty v ≠ [] := List.cons_ne_nil _ _

/-- The value bytes of a value in range give back all of it (R65, R81). -/
theorem takeValue_vbytes {ty : IntType} {v : Word} (h : v.toNat ≤ typeMax ty) :
    takeValue ty (vbytes ty v) = some (v, []) := by
  cases ty with
  | uint8 =>
    rw [← setWidth_back (w := 8) v (Nat.lt_succ_of_le h), vbytes_uint8, takeValue]
  | uint16 =>
    rw [← setWidth_back (w := 16) v (Nat.lt_succ_of_le h), vbytes_uint16, be16, takeValue, append_slices16]
  | uint32 => rw [vbytes, takeValue, append_slices32]

/-- Settles O5: the type decides first, then the value against the type's maximum. -/
theorem parameterChecks : Obligations.ParameterChecks := by
  unfold Obligations.ParameterChecks
  intro p slot
  refine ⟨fun hbad => ?_, fun hgood => ?_, rfl⟩
  · have hn : typeOfTag p.tag = none := (typeOfTag_eq_none _).2 hbad
    exact ⟨checkType_unsupported hn slot, by rw [checkParam_eq, hn]⟩
  · obtain ⟨ty, hty⟩ := Option.ne_none_iff_exists'.1 fun hn => (typeOfTag_eq_none _).1 hn hgood
    have htag : p.tag = tagOf ty := (typeOfTag_eq_some _ _).1 hty
    refine ⟨ty, checkType_of_typeOfTag hty slot, htag.symm, fun hgt => ⟨?_, ?_⟩, fun hle => ⟨?_, ?_, ?_, ?_⟩⟩
    · rw [checkRange_eq, if_pos hgt]
    · simp only [checkParam_eq, hty, if_pos hgt]
    · rw [checkRange_eq, if_neg hle.not_gt]
    · exact (checkParam_ok p slot ty).2 ⟨htag, hle⟩
    · exact encodeParam_ne_nil ty p.value
    · exact takeValue_vbytes hle

/-! ### ENCODE and MERGE (R87, R88) -/

theorem exec_encode {s : State} (h : s.performing .encode = true) : exec .encode s = .next (encodeWork s) :=
  congrArg _ (localCycle_performing _ _ _ h)

theorem exec_merge {s : State} (h : s.performing .merge = true) : exec .merge s = .next (mergeWork s) :=
  congrArg _ (localCycle_performing _ _ _ h)

theorem encodeWork_error {s : State} {e : Precondition} (h : checkParam (s.slot 0) 0 = .error e) :
    encodeWork s = raise e s := by rw [encodeWork, h]

theorem encodeWork_ok {s : State} {ty : IntType} (h : checkParam (s.slot 0) 0 = .ok ty) :
    encodeWork s = produce (encodeParam ty (s.slot 0).value) s := by rw [encodeWork, h]

theorem mergeWork_error_slot0 {s : State} {e : Precondition} (h : checkParam (s.slot 0) 0 = .error e) :
    mergeWork s = raise e s := by rw [mergeWork, h]

theorem mergeWork_error_slot1 {s : State} {t1 : IntType} {e : Precondition} (h0 : checkParam (s.slot 0) 0 = .ok t1)
    (h1 : checkParam (s.slot 1) 1 = .error e) : mergeWork s = raise e s := by simp only [mergeWork, h0, h1]

theorem mergeWork_ok {s : State} {t1 t2 : IntType} (h0 : checkParam (s.slot 0) 0 = .ok t1)
    (h1 : checkParam (s.slot 1) 1 = .ok t2) :
    mergeWork s = produce (mergeParam (encodeParam t1 (s.slot 0).value) t2 (s.slot 1).value) s := by
  simp only [mergeWork, h0, h1]

/-- A parameter's encoding fits TXBUF. -/
theorem encodeParam_fits (t : IntType) (v : Word) : (encodeParam t v).length ≤ Config.txbufSize := by
  have := typeWidth_le t
  rw [encodeParam_length, Config.txbufSize]
  omega

/-- A merged pair fits TXBUF. -/
theorem mergeParam_fits (t1 t2 : IntType) (v1 v2 : Word) :
    (mergeParam (encodeParam t1 v1) t2 v2).length ≤ Config.txbufSize := by
  have := typeWidth_le t1
  have := typeWidth_le t2
  rw [mergeParam_length _ _ _ (encodeParam_ne_nil t1 v1), encodeParam_length, Config.txbufSize]
  omega

/-- Settles O6: slot 0's check alone decides between the precondition error and the encoding. -/
theorem encodeOperation : Obligations.EncodeOperation := by
  unfold Obligations.EncodeOperation
  intro s h
  refine ⟨encodeWork s, exec_encode h, fun e he => ?_, fun ty hn hty => ?_⟩
  · rw [encodeWork_error (checkParam_of_paramError he 0)]
    exact rejected_raise ⟨e, 0⟩ s
  · rw [encodeWork_ok (checkParam_of_paramError_none hn hty 0), (typeOfTag_eq_some _ _).1 hty]
    exact produced_produce (encodeParam_fits ty _) s

/-- Settles O7: slot 0's check decides first, then slot 1's; where both pass, the pair is merged. -/
theorem mergeOperation : Obligations.MergeOperation := by
  unfold Obligations.MergeOperation
  intro s h
  refine ⟨mergeWork s, exec_merge h, fun e h0 => ?_, fun e h0 h1 => ?_, fun t1 t2 h0 h1 ht1 ht2 => ?_⟩
  · rw [mergeWork_error_slot0 (checkParam_of_paramError h0 0)]
    exact rejected_raise ⟨e, 0⟩ s
  · obtain ⟨t1, htag, hle⟩ := (paramError_none _).1 h0
    rw [mergeWork_error_slot1 ((checkParam_ok _ 0 t1).2 ⟨htag, hle⟩) (checkParam_of_paramError h1 1)]
    exact rejected_raise ⟨e, 1⟩ s
  · rw [mergeWork_ok (checkParam_of_paramError_none h0 ht1 0) (checkParam_of_paramError_none h1 ht2 1),
      (typeOfTag_eq_some _ _).1 ht1, (typeOfTag_eq_some _ _).1 ht2, ← mergeParam_encodeParam]
    exact produced_produce (mergeParam_fits t1 t2 _ _) s

end Sys2Proof.Machine
end

section
/-! PROOFS. The crc16-engine: the residual names the right CRC, and no change within one byte of a sequence keeps its CRC. -/

namespace Sys2Proof.Machine

/-! ### The residual (R93) -/

theorem append_word_eq_withCrc (m : List Byte) (w : BitVec 16) :
    m ++ [hiByte w, loByte w] = withCrc m ↔ w = crc16 m := by
  constructor
  · intro h
    simp only [withCrc, List.append_cancel_left_eq, List.cons.injEq, and_true] at h
    obtain ⟨hhi, hlo⟩ := h
    rw [← hiByte_append_loByte w, hhi, hlo, hiByte_append_loByte]
  · rintro rfl
    rfl

/-- Settles O10: the residual is zero exactly behind the sequence's own CRC, and `w` is determined by its two bytes. -/
theorem residualZeroExactlyForOwnCrc : Obligations.ResidualZeroExactlyForOwnCrc := by
  unfold Obligations.ResidualZeroExactlyForOwnCrc
  exact fun m w => (crc16_append_two_eq_zero m (hiByte w) (loByte w)).trans (append_word_eq_withCrc m w)

/-! ### The register forgets nothing (R95) -/

/-- Shifts are linear and only 0 is shifted to 0, so they are injective. -/
@[simp] theorem crcShifts_inj (n : Nat) {c d : BitVec 16} : crcShifts n c = crcShifts n d ↔ c = d := by
  rw [← BitVec.xor_eq_zero_iff, ← crcShifts_xor]
  exact (crcShifts_eq_zero n _).trans BitVec.xor_eq_zero_iff

@[simp] theorem crcUpdate_register_inj {c d : BitVec 16} (b : Byte) : crcUpdate c b = crcUpdate d b ↔ c = d := by
  rw [crcUpdate, crcUpdate, crcShifts_inj, BitVec.xor_left_inj]

@[simp] theorem crcUpdate_byte_inj (c : BitVec 16) {a b : Byte} : crcUpdate c a = crcUpdate c b ↔ a = b := by
  rw [crcUpdate, crcUpdate, crcShifts_inj, BitVec.xor_right_inj, ← crcShifts_byte, ← crcShifts_byte, crcShifts_inj]
  exact ⟨fun h => by simpa using congrArg (BitVec.setWidth 8) h, fun h => h ▸ rfl⟩

theorem foldl_crcUpdate_inj (t : List Byte) {c d : BitVec 16} : t.foldl crcUpdate c = t.foldl crcUpdate d ↔ c = d := by
  induction t generalizing c d with
  | nil => rfl
  | cons b t ih => rw [List.foldl_cons, List.foldl_cons, ih, crcUpdate_register_inj]

/-- Two sequences that differ in one byte at most have the same CRC only where they are the same. -/
theorem crc16_append_cons_inj (s t : List Byte) {a b : Byte} : crc16 (s ++ a :: t) = crc16 (s ++ b :: t) ↔ a = b := by
  rw [crc16_append, crc16_append, List.foldl_cons, List.foldl_cons, foldl_crcUpdate_inj, crcUpdate_byte_inj]

/-- Replacing a byte of a sequence keeps the CRC only where it keeps the byte. -/
theorem crc16_set_eq_iff {f : List Byte} {k : Nat} (hk : k < f.length) (b : Byte) :
    crc16 (f.set k b) = crc16 f ↔ b = f[k] := by
  rw [← crc16_append_cons_inj (f.take k) (f.drop (k + 1)), List.set_eq_take_append_cons_drop, if_pos hk,
    List.getElem_cons_drop, List.take_append_drop]

theorem xor_oneBit_ne_self (b : Byte) {bit : Nat} (h : bit < 8) : b ^^^ (1#8 <<< bit) ≠ b := by
  intro heq
  have hbit := congrArg (BitVec.getLsbD · bit) heq
  simp [h] at hbit

/-- Settles O11: the flip changes the byte, hence the CRC, which was zero. -/
theorem singleBitFlipIsDetected : Obligations.SingleBitFlipIsDetected := by
  unfold Obligations.SingleBitFlipIsDetected
  intro f k bit hf hk hbit hflip
  have hkept : crc16 (f.set k (f.getD k 0 ^^^ (1#8 <<< bit))) = crc16 f := hflip.trans hf.symm
  rw [crc16_set_eq_iff hk, List.getD_eq_getElem f 0 hk] at hkept
  exact xor_oneBit_ne_self f[k] hbit hkept

end Sys2Proof.Machine
end

section
/-! PROOFS. The frame-builder: build in terms of its check loop and of `assemble`, the length and the first failure that
follow, and what BUILD and EXECUTE's COMPUTE end with. -/

namespace Sys2Proof.Machine

/-! ### build by its check loop (R98) -/

theorem build_tooManyParams (fc : BitVec 12) {n : BitVec 8} (slots : List Param) (h : 15 < n.toNat) :
    build fc n slots = .error ⟨.tooManyParams, 0⟩ := by rw [build, if_pos h]

theorem build_of_checkParams_error (fc : BitVec 12) {n : BitVec 8} {slots : List Param} {e : Precondition}
    (hn : n.toNat ≤ 15) (h : checkParams 0 (slots.take n.toNat) = .error e) : build fc n slots = .error e := by
  rw [build, if_neg hn.not_gt, h]

theorem build_of_checkParams_ok (fc : BitVec 12) {n : BitVec 8} {slots : List Param} {ps : List (IntType × Word)}
    (hn : n.toNat ≤ 15) (h : checkParams 0 (slots.take n.toNat) = .ok ps) :
    build fc n slots = .ok (assemble fc n ps) := by
  rw [build, if_neg hn.not_gt, h]

/-- A frame is assembled from checked parameters, at most 15 of them. -/
theorem build_eq_ok_iff (fc : BitVec 12) (n : BitVec 8) (slots : List Param) (f : List Byte) :
    build fc n slots = .ok f ↔
      n.toNat ≤ 15 ∧ ∃ ps, checkParams 0 (slots.take n.toNat) = .ok ps ∧ f = assemble fc n ps := by
  constructor
  · intro h
    obtain hn | hn := Nat.lt_or_ge 15 n.toNat
    · rw [build_tooManyParams fc slots hn] at h; cases h
    · cases hc : checkParams 0 (slots.take n.toNat) with
      | error e => rw [build_of_checkParams_error fc hn hc] at h; cases h
      | ok ps =>
        rw [build_of_checkParams_ok fc hn hc] at h
        exact ⟨hn, ps, rfl, (Except.ok.inj h).symm⟩
  · rintro ⟨hn, ps, hc, rfl⟩
    exact build_of_checkParams_ok fc hn hc

/-! ### The length of a frame (R100, R101, R102, R103) -/

theorem assemble_length (fc : BitVec 12) (n : BitVec 8) (ps : List (IntType × Word)) :
    (assemble fc n ps).length = 1 + 2 + (packParams ps).length + 2 := by
  rw [assemble, withCrc_length, List.length_cons, List.length_append, List.length_cons, List.length_singleton]
  omega

theorem assemble_headD (fc : BitVec 12) (n : BitVec 8) (ps : List (IntType × Word)) :
    (assemble fc n ps).headD 0 = BitVec.ofNat 8 (assemble fc n ps).length := by
  rw [assemble, withCrc_length]
  rfl

/-- Each full pair shares one header byte (R85, R101). -/
theorem packParams_length (ps : List (IntType × Word)) :
    (packParams ps).length + ps.length / 2 = (ps.map fun q => 1 + typeWidth q.1).sum := by
  induction ps using packParams.induct with
  | case1 => rfl
  | case2 t v => simp [packParams, encodeParam_length]
  | case3 t1 v1 t2 v2 rest ih =>
    rw [packParams, List.length_append, mergeParam_length _ _ _ (encodeParam_ne_nil t1 v1), encodeParam_length]
    simp only [List.length_cons, List.map_cons, List.sum_cons]
    omega

/-- The slots' types are those the check loop answers. -/
theorem sum_typeWidth_of_checkParams {slots : List Param} {ps : List (IntType × Word)}
    (h : checkParams 0 slots = .ok ps) :
    (slots.map fun p => 1 + (typeOfTag p.tag).elim 0 typeWidth).sum = (ps.map fun q => 1 + typeWidth q.1).sum := by
  obtain ⟨-, hslots⟩ := checkParams_ok 0 slots ps h
  simp [← hslots, Function.comp_def, typeOfTag_tagOf]

/-- R101: five bytes of frame, one header and the value bytes for each parameter, less a header for each pair. -/
theorem build_length_eq {fc : BitVec 12} {n : BitVec 8} {slots : List Param} {f : List Byte} (hs : slots.length = 15)
    (h : build fc n slots = .ok f) :
    f.length + n.toNat / 2 = 5 + ((slots.take n.toNat).map fun p => 1 + (typeOfTag p.tag).elim 0 typeWidth).sum := by
  obtain ⟨hn, ps, hc, rfl⟩ := (build_eq_ok_iff fc n slots f).1 h
  have hcount : ps.length = n.toNat := by
    obtain ⟨-, hslots⟩ := checkParams_ok 0 _ ps hc
    rw [← List.length_map, hslots, List.length_take, hs, Nat.min_eq_left hn]
  rw [assemble_length, sum_typeWidth_of_checkParams hc, ← packParams_length, hcount]
  omega

theorem sum_typeWidth_uint32 {slots : List Param} (h : ∀ p ∈ slots, p.tag = 0x03) :
    (slots.map fun p => 1 + (typeOfTag p.tag).elim 0 typeWidth).sum = 5 * slots.length := by
  induction slots with
  | nil => rfl
  | cons p slots ih =>
    obtain ⟨hp, hslots⟩ := List.forall_mem_cons.1 h
    rw [List.map_cons, List.sum_cons, ih hslots, hp, List.length_cons, Nat.mul_succ, Nat.add_comm]
    rfl

/-- The frame without parameters is the length byte, the command word and the CRC (R102). -/
theorem build_zero (fc : BitVec 12) (slots : List Param) :
    build fc 0 slots = .ok (withCrc [0x05, hiByte (commandWord fc 0), loByte (commandWord fc 0)]) := rfl

/-- Settles O14: the length is the packed area's, and the shortest frame is computed. -/
theorem frameLength : Obligations.FrameLength := by
  unfold Obligations.FrameLength
  intro fc n slots f h
  have hs : slots.toList.length = 15 := by simp
  have hlen := build_length_eq hs h
  obtain ⟨h5, h73⟩ := build_length fc n _ f hs h
  refine ⟨hlen, h5, h73, ?_, ?_, ?_⟩
  · rintro rfl
    rw [build_zero] at h
    exact (Except.ok.inj h).symm
  · rintro rfl h32
    have h15 : (15 : BitVec 8).toNat = 15 := rfl
    rw [h15, List.take_of_length_le hs.le, sum_typeWidth_uint32 h32, hs] at hlen
    omega
  · rintro rfl rfl
    rw [build_zero] at h
    obtain rfl := Except.ok.inj h
    decide +kernel

/-- Settles O15: `assemble` puts the length, which fits a byte, in front and the CRC behind. -/
theorem frameDescribesAndChecksItself : Obligations.FrameDescribesAndChecksItself := by
  unfold Obligations.FrameDescribesAndChecksItself
  intro fc n slots f h
  obtain ⟨-, h73⟩ := build_length fc n _ f (by simp) h
  obtain ⟨-, ps, hc, rfl⟩ := (build_eq_ok_iff fc n _ f).1 h
  refine ⟨?_, crc16_withCrc _, ps, hc, assemble_length fc n ps⟩
  rw [assemble_headD, toNat_len _ (by omega)]

/-! ### The first failure (R98, R127) -/

theorem getD_take_of_lt {α : Type} {l : List α} {n j : Nat} (h : j < n) (d : α) : (l.take n).getD j d = l.getD j d := by
  rw [List.getD_eq_getElem?_getD, List.getElem?_take_of_lt h, ← List.getD_eq_getElem?_getD]

/-- Settles O17: the check loop stops at the first slot that fails, and passes where none does. -/
theorem buildReportsTheFirstFailure : Obligations.BuildReportsTheFirstFailure := by
  unfold Obligations.BuildReportsTheFirstFailure
  intro fc n slots
  refine ⟨build_tooManyParams fc _, fun hn i hi e hbefore he => ?_, fun hn hall => ?_⟩
  · refine build_of_checkParams_error fc hn ((checkParams_error 0 _ _).2 ⟨i, by simp; omega, e, fun j hj => ?_, ?_, ?_⟩)
    · rw [getD_take_of_lt (hj.trans hi)]; exact hbefore j hj
    · rw [getD_take_of_lt hi]; exact he
    · rw [Nat.zero_add]
  · cases hc : checkParams 0 (slots.toList.take n.toNat) with
    | error e =>
      obtain ⟨k, hk, c, -, hfail, -⟩ := (checkParams_error 0 _ _).1 hc
      have hkn : k < n.toNat := hk.trans_le (List.length_take_le _ _)
      rw [getD_take_of_lt hkn, hall k hkn] at hfail
      cases hfail
    | ok ps => exact ⟨_, build_of_checkParams_ok fc hn hc⟩

/-! ### BUILD, and EXECUTE in COMPUTE (R105, R111) -/

/-- The builder's cycle ends with the precondition error of build, or with its frame (R105, R111, R126). -/
theorem builderWork_outcome (s : State) :
    (∀ e, build s.func s.pcount s.slots.toList = .error e → Rejected e.code e.slot s (builderWork s)) ∧
    (∀ f, build s.func s.pcount s.slots.toList = .ok f → Emitted f s (builderWork s)) := by
  refine ⟨fun e he => ?_, fun f hf => ?_⟩
  · rw [builderWork_error he]
    exact rejected_raise e s
  · rw [builderWork, State.builtFrame, hf]
    exact emitted_emitFrame (build_length _ _ _ _ (slots_length s) hf).2 s

theorem exec_build {s : State} (h : s.performing .build = true) : exec .build s = .next (builderWork s) :=
  congrArg _ (localCycle_performing _ _ _ h)

theorem exec_execute_compute {s : State} (h : s.seq = .compute) :
    exec .execute s = .next (localCycle .execute builderWork s) := congrArg _ (executeCycle_compute h)

/-- Settles O18: BUILD's own cycle is the builder's. -/
theorem buildOperation : Obligations.BuildOperation := by
  unfold Obligations.BuildOperation
  intro s h
  obtain ⟨herror, hok⟩ := builderWork_outcome s
  obtain ⟨-, ho, -⟩ := (performing_iff s .build).1 h
  exact ⟨builderWork s, exec_build h, herror, fun f hf => (hok f hf).1 ho⟩

/-- Settles O24: EXECUTE's cycles of COMPUTE wait, and the last is the builder's. -/
theorem executeBuilds : Obligations.ExecuteBuilds := by
  unfold Obligations.ExecuteBuilds
  intro s ho hs
  rw [exec_execute_compute hs]
  refine ⟨fun hl => ?_, fun hl => ?_⟩
  · rw [localCycle_wait _ _ _ hs ho hl, waitCycle]
  · rw [localCycle_performing _ _ _ ((performing_iff s _).2 ⟨hs, ho, hl⟩)]
    obtain ⟨herror, hok⟩ := builderWork_outcome s
    exact ⟨builderWork s, rfl, herror, fun f hf => (hok f hf).2 ho⟩

end Sys2Proof.Machine
end

section
/-! PROOFS. EXECUTE in its read states and in VALIDATED, the end of its length window, and the bytes it ends with. -/

namespace Sys2Proof.Machine

/-! ### EXECUTE in AWAIT_LEN (R113) -/

/-- A write within RXBUF changes the byte at its index and no other (R37). -/
theorem rxbufBecomes_writeRx {k : Nat} (h : k < Config.rxbufSize) (b : Byte) (s : State) :
    rxbufBecomes k b s (writeRx k b s) := by
  intro i
  simp [Memory.byte?_write, h]

theorem exec_execute_awaitLen {s : State} (ho : s.op = .execute) (hs : s.seq = .awaitLen) :
    exec .execute s = .next (awaitLenCycle s) := congrArg _ (executeCycle_awaitLen hs ho)

theorem windowEnds_eq_false {s : State} (h : s.timer ≠ s.window - 1) : windowEnds s = false := by
  rw [← Bool.not_eq_true, windowEnds_iff]; exact h

/-- Settles O26, by the four cases of a cycle of AWAIT_LEN. -/
theorem executeAwaitsLength : Obligations.ExecuteAwaitsLength := by
  unfold Obligations.ExecuteAwaitsLength
  intro s ho hs
  rw [exec_execute_awaitLen ho hs]
  have hrx : rxbufBecomes 0 s.ports.rxData s (writeRx 0 s.ports.rxData s) := rxbufBecomes_writeRx (by decide) _ s
  refine ⟨fun hv h5 => ?_, fun hv h5 => ?_, fun hv ht => ?_, fun hv ht => ?_⟩
  · rw [awaitLenCycle_short hv h5]; exact ⟨_, rfl, hrx, rfl⟩
  · rw [awaitLenCycle_long hv (by omega)]; exact ⟨_, rfl, hrx, rfl⟩
  · rw [awaitLenCycle_expires hv ((windowEnds_iff s).2 ht)]; rfl
  · rw [awaitLenCycle_waits hv (windowEnds_eq_false ht)]

/-! ### EXECUTE in AWAIT_BODY (R114) -/

theorem exec_execute_awaitBody {s : State} (ho : s.op = .execute) (hs : s.seq = .awaitBody) :
    exec .execute s = .next (awaitBodyCycle s) := congrArg _ (executeCycle_awaitBody hs ho)

/-- The storing of a byte touches rx_n and RXBUF alone. -/
theorem storeBody_eq (s : State) :
    storeBody s = { s with rxN := (storeBody s).rxN, rxbuf := (storeBody s).rxbuf } := by
  obtain ⟨-, e⟩ | ⟨-, e⟩ := storeBody_cases s
  · rw [e]; rfl
  · rw [e]

@[simp] theorem windowEnds_storeBody (s : State) : windowEnds (storeBody s) = windowEnds s := by simp [windowEnds]

@[simp] theorem awaitBodyCycle_rxN (s : State) : (awaitBodyCycle s).rxN = (storeBody s).rxN := by
  obtain ⟨-, e⟩ | ⟨-, -, e⟩ | ⟨-, -, e⟩ := awaitBodyCycle_cases s <;> rw [e] <;> rfl

@[simp] theorem awaitBodyCycle_rxbuf (s : State) : (awaitBodyCycle s).rxbuf = (storeBody s).rxbuf := by
  obtain ⟨-, e⟩ | ⟨-, -, e⟩ | ⟨-, -, e⟩ := awaitBodyCycle_cases s <;> rw [e] <;> rfl

/-- A byte of the body is stored at index rx_n, whatever else the cycle does. -/
theorem rxbufBecomes_awaitBodyCycle {s : State} (hv : s.ports.rxValid = true) (hn : s.rxN.toNat < Config.rxbufSize) :
    rxbufBecomes s.rxN.toNat s.ports.rxData s (awaitBodyCycle s) := by
  unfold rxbufBecomes
  rw [awaitBodyCycle_rxbuf, storeBody_valid hv]
  exact rxbufBecomes_writeRx hn _ s

/-- Settles O27: a byte that comes is stored, and then the frame is complete, or the window ends, or the timer goes up. -/
theorem executeAwaitsBody : Obligations.ExecuteAwaitsBody := by
  unfold Obligations.ExecuteAwaitsBody
  intro s ho hs hlt
  have hsize : s.rxN.toNat < Config.rxbufSize := hlt.trans_le (Nat.le_of_lt_succ s.rxLen.isLt)
  refine ⟨awaitBodyCycle s, exec_execute_awaitBody ho hs, fun hv => ⟨?_, rxbufBecomes_awaitBodyCycle hv hsize⟩,
    fun hv => ?_, ?_⟩
  · rw [awaitBodyCycle_rxN, storeBody_valid hv]
  · rw [awaitBodyCycle_rxN, awaitBodyCycle_rxbuf, storeBody_silent hv]; exact ⟨rfl, rfl⟩
  rw [awaitBodyCycle_rxN, awaitBodyCycle_rxbuf]
  have hlen := storeBody_rxLen s
  refine ⟨fun h => ?_, fun hn ht => ?_⟩
  · have hend : awaitBodyCycle s = enterValidated (storeBody s) := by
      obtain hn | ht := h
      · exact awaitBodyCycle_full (hn.trans hlen.symm)
      · exact awaitBodyCycle_expires (by rw [windowEnds_storeBody, windowEnds_iff]; exact ht)
    exact hend.trans (congrArg enterValidated (storeBody_eq s))
  · have hw : windowEnds (storeBody s) = false := by rw [windowEnds_storeBody, windowEnds_eq_false ht]
    exact (awaitBodyCycle_waits (hlen ▸ hn) hw).trans
      (congrArg (fun u : State => { u with timer := u.timer + 1 }) (storeBody_eq s))

/-! ### EXECUTE in VALIDATED (R115) -/

theorem exec_execute_validated {s : State} (ho : s.op = .execute) (hs : s.seq = .validated) :
    exec .execute s = .next (validatedCycle s) := congrArg _ (executeCycle_validated hs ho)

/-- RXBUF[0..rx_n) as EXECUTE reads it (R38). -/
theorem received_spec (s : State) : s.received.length = s.rxN.toNat ∧ agreesWith s.rxbuf s.received :=
  ⟨Memory.snapshot_length _ _ _, agreesWith_snapshot _ _ _⟩

/-- In its own cycle VALIDATED completes with the triple of the bytes it reads. -/
theorem classified_validatedCycle {s : State} (hl : s.lat = 0) :
    Classified (classify s.received) s (validatedCycle s) := by
  rw [validatedCycle, if_pos hl]; exact classified_concludeTest _ s

/-- Settles O28: the triple is that of the bytes EXECUTE reads. -/
theorem executeValidates : Obligations.ExecuteValidates := by
  unfold Obligations.ExecuteValidates
  intro s ho hs
  rw [exec_execute_validated ho hs]
  refine ⟨fun hl => by rw [validatedCycle_waits hl, waitCycle], fun hl => ?_⟩
  obtain ⟨hlen, hagree⟩ := received_spec s
  refine ⟨_, rfl, ⟨s.received, hlen, hagree, classified_validatedCycle hl⟩, fun bytes hn hb => ?_⟩
  rw [← received_of_beginsWith s bytes hn hb]
  exact classified_validatedCycle hl

/-! ### The length window (R110, R113) -/

/-- EXECUTE is in AWAIT_LEN, `n` cycles of its window are left (R110), and neither reset nor a byte comes in them. -/
structure LengthWindowLeft (n : Nat) (s : State) : Prop where
  op     : s.op = .execute
  seq    : s.seq = .awaitLen
  left   : s.timer.toNat + n = s.window.toNat
  silent : ∀ p ∈ s.inputs.take n, p.rst = false ∧ p.rxValid = false

/-- In the window a step is a cycle of AWAIT_LEN without a byte. -/
theorem LengthWindowLeft.step {n : Nat} {s : State} (h : LengthWindowLeft (n + 1) s) :
    step s = .next (awaitLenCycle (portSide s.latch)) ∧ (portSide s.latch).ports.rxValid = false ∧
      (portSide s.latch).window = s.window ∧ (portSide s.latch).rxbuf = s.rxbuf := by
  obtain ⟨ho, hs, -, hi⟩ := h
  obtain ⟨hr, hv⟩ := latch_ports_of_forall_take (P := fun p => p.rst = false ∧ p.rxValid = false) ⟨rfl, rfl⟩ hi
  have hb : s.busy = true := (busy_iff s).2 (by simp [hs])
  refine ⟨?_, by simpa using hv, ?_, ?_⟩
  · rw [step_execute s hr hb ho, executeCycle_awaitLen (by simpa using hs) (by simpa using ho)]
  · rw [portSide_window _ (by simpa using hb), latch_window]
  · obtain ⟨-, -, -, -, -, -, hrx⟩ := portSide_latch_request hb
    exact hrx

/-- A cycle of the window that is not its last leaves one cycle less of it. -/
theorem LengthWindowLeft.next {n : Nat} {s : State} (h : LengthWindowLeft (n + 2) s) :
    ∃ t, Machine.step s = .next t ∧ LengthWindowLeft (n + 1) t ∧ t.rxbuf = s.rxbuf := by
  obtain ⟨hst, hv, hw, hrx⟩ := h.step
  obtain ⟨ho, hs, hl, hi⟩ := h
  have hwe : windowEnds (portSide s.latch) = false :=
    windowEnds_eq_false (by rw [hw, portSide_timer, latch_timer]; bv_omega)
  rw [awaitLenCycle_waits hv hwe, portSide_timer, latch_timer] at hst
  refine ⟨_, hst, ⟨by simpa using ho, by simpa using hs, ?_, ?_⟩, hrx⟩
  · show (s.timer + 1).toNat + (n + 1) = (portSide s.latch).window.toNat
    rw [hw]; bv_omega
  · simpa using forall_take_tail hi

/-- The last cycle of the window completes EXECUTE with RESPONSE_TIMEOUT. -/
theorem LengthWindowLeft.last {s : State} (h : LengthWindowLeft 1 s) :
    ∃ t, Machine.step s = .next t ∧ t.seq = .idle ∧ t.done = true ∧ t.outcome = .responseTimeout ∧
      t.failCause = .noLength ∧ t.result = 0x00 ∧ t.rxCount = 0 ∧ t.rxbuf = s.rxbuf := by
  obtain ⟨hst, hv, hw, hrx⟩ := h.step
  have hl := h.left
  have hwe : windowEnds (portSide s.latch) = true :=
    (windowEnds_iff _).2 (by rw [hw, portSide_timer, latch_timer]; bv_omega)
  rw [awaitLenCycle_expires hv hwe] at hst
  exact ⟨_, hst, rfl, rfl, rfl, rfl, rfl, rfl, hrx⟩

/-- As long as a cycle of the window is left, EXECUTE waits in it. -/
theorem LengthWindowLeft.run {j n : Nat} {s : State} (h : LengthWindowLeft (n + 1 + j) s) :
    ∃ t, Sys2Proof.core.run j s = .next t ∧ LengthWindowLeft (n + 1) t ∧ t.rxbuf = s.rxbuf := by
  induction j generalizing s with
  | zero => exact ⟨s, rfl, h, rfl⟩
  | succ j ih =>
    rw [show n + 1 + (j + 1) = n + j + 2 by omega] at h
    obtain ⟨t, hst, ht, hrx⟩ := h.next
    obtain ⟨u, hrun, hu, hrx'⟩ := ih (by rwa [show n + 1 + j = n + j + 1 by omega])
    exact ⟨u, (run_succ_of_step j hst).trans hrun, hu, hrx'.trans hrx⟩

/-- Settles O55: EXECUTE waits through the window's cycles but the last, which times out. -/
theorem lengthWindowExpires : Obligations.LengthWindowExpires := by
  unfold Obligations.LengthWindowExpires
  intro k s ho hs hl hi
  have h : LengthWindowLeft (k + 1) s := ⟨ho, hs, hl, hi⟩
  refine ⟨fun j hj => ?_, ?_⟩
  · obtain ⟨n, rfl⟩ := Nat.exists_eq_add_of_le' hj
    rw [show n + j + 1 = n + 1 + j by omega] at h
    obtain ⟨u, hrun, hu, -⟩ := h.run
    exact ⟨u, hrun, hu.seq⟩
  · rw [show k + 1 = 0 + 1 + k by omega] at h
    obtain ⟨u, hrun, hu, hrx⟩ := h.run
    obtain ⟨t, hst, hseq, hd, hout, hf, hres, hc, hrx'⟩ := hu.last
    exact ⟨t, (run_add 1 hrun).trans (run_succ_of_step 0 hst), hseq, hd, hout, hf, hres, hc, hrx'.trans hrx⟩

/-! ### The end of an EXECUTE (R116) -/

/-- Where every byte was written since reset, a read gives what the buffer begins with, whatever the free values are. -/
theorem beginsWith_snapshot {m : Memory} {n : Nat} (d : Nat) (h : ∀ i < n, (Memory.byte? m i).isSome = true) :
    beginsWith m (Memory.snapshot m n d) := by
  intro i hi
  rw [Memory.snapshot_length] at hi
  obtain ⟨b, hb⟩ := Option.isSome_iff_exists.1 (h i hi)
  rw [Memory.snapshot_getElem?, if_pos hi, Memory.byteOr, hb, Option.getD_some]

/-- Past COMPUTE a safe state is EXECUTE's, and TXBUF holds its frame (R111). -/
theorem SafeState.execute_sentFrame {s : State} (h : SafeState s) (hb : s.busy = true) (hc : s.seq ≠ .compute) :
    s.op = .execute ∧ sentFrame s = true := by
  obtain ⟨-, -, -, -, hq⟩ := h
  cases hs : s.seq with
  | idle => exact absurd hs ((busy_iff s).1 hb)
  | compute => exact absurd hs hc
  | frameSent => obtain ⟨ho, hf, -⟩ := (sequencerOk_frameSent hs).1 hq; exact ⟨ho, hf⟩
  | awaitLen => obtain ⟨ho, hf, -⟩ := (sequencerOk_awaitLen hs).1 hq; exact ⟨ho, hf⟩
  | awaitBody => obtain ⟨ho, hf, -⟩ := (sequencerOk_awaitBody hs).1 hq; exact ⟨ho, hf⟩
  | validated => obtain ⟨ho, hf, -⟩ := (sequencerOk_validated hs).1 hq; exact ⟨ho, hf⟩

/-- In VALIDATED the bytes received were all written (R113, R114). -/
theorem SafeState.beginsWith_received {s : State} (h : SafeState s) (hs : s.seq = .validated) :
    beginsWith s.rxbuf s.received := by
  obtain ⟨-, -, -, -, hq⟩ := h
  obtain ⟨-, -, hrs, -⟩ := (sequencerOk_validated hs).1 hq
  obtain ⟨-, hw, -⟩ := (receivedSome_iff s).1 hrs
  exact beginsWith_snapshot _ hw

/-- Past COMPUTE two cycles end EXECUTE: the last of the length window, with the triple of no bytes (R113), and the last
of VALIDATED, with that of the bytes received (R115). -/
theorem BusyCycle.ends_execute {u t : State} (h : BusyCycle u t) (hc : u.seq ≠ .compute)
    (hb : u.busy = true) (he : t.busy = false) :
    (u.seq = .awaitLen ∧ t = conclude (Machine.classify []) { u with rxCount := 0 }) ∨
    (u.seq = .validated ∧
      t = conclude (Machine.classify u.received) (drew u.rxN.toNat { u with rxCount := u.rxN })) := by
  cases h with
  | wait hs => exact absurd hs hc
  | nop hp | encode hp | merge hp | build hp | checksum hp | verify hp | classify hp | execute hp =>
    exact absurd ((performing_iff u _).1 hp).1 hc
  | frameSent hs =>
    obtain ⟨-, e⟩ | ⟨-, -, e⟩ | ⟨-, -, e⟩ := frameSentCycle_cases u hs <;> rw [e] at he
    · simp [hb] at he
    · cases he
    · simp [State.busy, hs] at he
  | awaitLen hs =>
    obtain ⟨-, -, e⟩ | ⟨-, -, e⟩ | ⟨-, -, e⟩ | ⟨-, -, e⟩ := awaitLenCycle_cases u <;> rw [e] at he ⊢
    · cases he
    · cases he
    · exact .inl ⟨hs, rfl⟩
    · simp [State.busy, hs] at he
  | awaitBody hs =>
    obtain e | ⟨-, -, e, -⟩ := awaitBodyCycle_window u <;> simp [State.busy, e, hs] at he
  | validated hs =>
    obtain ⟨-, e⟩ | ⟨-, e⟩ := validatedCycle_cases u hs <;> rw [e] at he ⊢
    · simp [State.busy, hs] at he
    · exact .inr ⟨hs, rfl⟩
  | unreachable => simp [hb] at he

/-- Settles O58: the cycle that ends EXECUTE leaves TXBUF and the bytes received, and takes the triple from these bytes. -/
theorem executeEndsAsClassified : Obligations.ExecuteEndsAsClassified := by
  unfold Obligations.ExecuteEndsAsClassified
  intro s t h hr hb hc hst he
  have hu : SafeState (portSide s.latch) := h.latch.portSide
  have hub : (portSide s.latch).busy = true := by simpa using hb
  have huc : (portSide s.latch).seq ≠ .compute := by simpa using hc
  obtain ⟨-, hf⟩ := hu.execute_sentFrame hub huc
  obtain ⟨-, hcyc⟩ | ⟨hi, -⟩ | ⟨hi, -⟩ := step_no_reset s t hr hst
  · obtain ⟨-, rfl⟩ | ⟨hs, rfl⟩ := hcyc.ends_execute huc hub he
    · exact ⟨[], rfl, fun _ hi => absurd hi (Nat.not_lt_zero _), rfl, hf⟩
    · obtain ⟨hlen, -⟩ := received_spec (portSide s.latch)
      exact ⟨_, hlen, hu.beginsWith_received hs, rfl, hf⟩
  · simp [hb] at hi
  · simp [hb] at hi

end Sys2Proof.Machine
end

section
/-! PROOFS. NOP, and the rows and operations in a cycle that is not theirs. -/

namespace Sys2Proof.Machine

/-! ### NOP (R106) -/

/-- Settles O22: NOP's own cycle is a completion with OUTCOME = NONE. -/
theorem nopOperation : Obligations.NopOperation := by
  unfold Obligations.NopOperation
  exact fun s h => congrArg Host.Outcome.next (localCycle_performing .nop completeNone s h)

/-! ### Rows and operations elsewhere (R117) -/

section
variable {s : State}

theorem groupCycle_of_not_producesGroup {i : Instr} (h : producesGroup i s = false) : groupCycle i s = s := by
  simp [groupCycle, h]

theorem commandWordCycle_of_not_buildingFor {fc : BitVec 12} {n : BitVec 4}
    (h : s.buildingFor fc (n.setWidth 8) = false) : commandWordCycle fc n s = s := by
  simp [commandWordCycle, h]

theorem execRequestFrame_of_not_producesFrame {fc : BitVec 12} {ps : List Param} (h : producesFrame fc ps s = false) :
    execRequestFrame fc ps s = .next s := by simp [execRequestFrame, h]

theorem execResponseFrame_of_not_handles {payload : List Byte} (h : handles (.responseFrame payload) s = false) :
    execResponseFrame payload s = .next s := by
  unfold execResponseFrame
  cases hu : s.underTest with
  | none => rfl
  | some buf =>
    simp only [handles, hu, Option.any_some] at h
    simp [h]

theorem resultCodeCycle_of_not_carried {c : Byte} (h : (s.underTest.any fun buf => carriedCode buf == some c) = false) :
    resultCodeCycle c s = s := by
  unfold resultCodeCycle
  cases hu : s.underTest with
  | none => rfl
  | some buf =>
    simp only [hu, Option.any_some, beq_eq_false_iff_ne] at h
    simp [h]

/-- In a cycle that is not the row's the row changes nothing (log entry 4). -/
theorem exec_row_of_not_handles {i : Instr} (hrow : ∀ w, encode i ≠ .cmd w) (h : handles i s = false) :
    exec i s = .next s := by
  cases i with
  | nop | encode | merge | build | checksum | verify | classify | execute => exact absurd rfl (hrow _)
  | paramUint8 | paramUint16 | paramUint32 | pairUint8Uint8 | pairUint8Uint16 | pairUint8Uint32 | pairUint16Uint8
  | pairUint16Uint16 | pairUint16Uint32 | pairUint32Uint8 | pairUint32Uint16 | pairUint32Uint32 =>
    exact congrArg Host.Outcome.next (groupCycle_of_not_producesGroup h)
  | cmdword | fc010 | fc011 | fc021 | fc031 | fc041 | fc051 =>
    exact congrArg Host.Outcome.next (commandWordCycle_of_not_buildingFor h)
  | requestFrame => exact execRequestFrame_of_not_producesFrame h
  | responseFrame => exact execResponseFrame_of_not_handles h
  | noError | crcError | methodError | parametersError | tooEarlyError | timeoutError | undefinedError | redefinedError
  | genericError => exact congrArg Host.Outcome.next (resultCodeCycle_of_not_carried h)

theorem localCycle_of_other {o : Op} (act : State → State) (hb : s.busy = true) (ho : s.op ≠ o) :
    localCycle o act s = s := by
  obtain ⟨hs, -⟩ | ⟨-, h, -⟩ | ⟨-, h, -⟩ | ⟨-, -, e⟩ := localCycle_cases o act s
  · exact absurd hs ((busy_iff s).1 hb)
  · exact absurd h ho
  · exact absurd h ho
  · exact e

theorem executeCycle_of_other (hb : s.busy = true) (ho : s.op ≠ .execute) : executeCycle s = s := by
  unfold executeCycle
  split
  · exact localCycle_of_other _ hb ho
  · exact localCycle_of_other _ hb ho
  all_goals exact if_neg ho

/-- While another operation is in progress an operation changes nothing (R117). -/
theorem exec_instr_of_other {o : Op} (hb : s.busy = true) (ho : s.op ≠ o) : exec o.instr s = .next s := by
  cases o with
  | execute => exact congrArg _ (executeCycle_of_other hb ho)
  | _ => exact congrArg _ (localCycle_of_other _ hb ho)

end

/-- Settles O32: the rows by the kind of their cycle, the operations by the operation in progress. -/
theorem rowsElsewhereChangeNothing : Obligations.RowsElsewhereChangeNothing := by
  unfold Obligations.RowsElsewhereChangeNothing
  refine ⟨fun s i => exec_row_of_not_handles, fun s o i hi hb ho => ?_⟩
  rw [instr_of_decode_code hi]
  exact exec_instr_of_other hb ho

end Sys2Proof.Machine
end

section
/-! PROOFS. The outcomes each operation completes with: those of its cycle of work, and of EXECUTE's ends past COMPUTE. -/

namespace Sys2Proof.Machine

/-! ### The outcomes of an operation's work (R129) -/

/-- classify answers the outcomes of CLASSIFY (R107). -/
theorem classify_outcome_allowed (buf : List Byte) : (classify buf).outcome ∈ allowedOutcomes .classify := by
  obtain h | ⟨_, -, h⟩ | ⟨_, -, h⟩ | ⟨_, -, h⟩ := classify_cases buf <;> simp [h, allowedOutcomes]

section
variable (s : State)

theorem encodeWork_outcome_allowed : (encodeWork s).outcome ∈ allowedOutcomes .encode := by
  obtain ⟨_, -, eq⟩ | ⟨_, -, eq⟩ := encodeWork_cases s <;> rw [eq]
  · rw [raise_outcome]; decide
  · rw [produce_outcome]; decide

theorem mergeWork_outcome_allowed : (mergeWork s).outcome ∈ allowedOutcomes .merge := by
  obtain ⟨_, -, eq⟩ | ⟨_, _, -, -, eq⟩ | ⟨_, _, -, -, eq⟩ := mergeWork_cases s <;> rw [eq]
  · rw [raise_outcome]; decide
  · rw [raise_outcome]; decide
  · rw [produce_outcome]; decide

/-- The builder's cycle ends BUILD with or without a precondition error, and EXECUTE only with one (R105, R111). -/
theorem builderWork_outcome_allowed (ho : s.op = .build ∨ s.op = .execute) (he : (builderWork s).busy = false) :
    (builderWork s).outcome ∈ allowedOutcomes s.op := by
  obtain ⟨_, -, eq⟩ | ⟨_, -, -, eq⟩ | ⟨_, -, hne, eq⟩ := builderWork_cases s <;> rw [eq] at he ⊢
  · rw [raise_outcome]
    obtain ho | ho := ho <;> rw [ho] <;> decide
  · cases he
  · rw [produce_outcome, ho.resolve_right hne]; decide

end

/-! ### The outcomes of a completion -/

/-- A cycle that ends an operation past COMPUTE leaves an outcome of classify (R113, R115). -/
theorem BusyCycle.outcome_past_compute {u t : State} (h : BusyCycle u t) (hc : u.seq ≠ .compute)
    (hb : u.busy = true) (he : t.busy = false) : t.outcome ∈ allowedOutcomes .classify := by
  obtain ⟨-, rfl⟩ | ⟨-, rfl⟩ := h.ends_execute hc hb he <;> exact classify_outcome_allowed _

/-- A cycle that ends an operation leaves one of its outcomes (R129). -/
theorem BusyCycle.outcome_allowed {u t : State} (h : BusyCycle u t) (hb : u.busy = true) (he : t.busy = false) :
    t.outcome ∈ allowedOutcomes u.op := by
  have hop : ∀ {o}, u.performing o = true → u.op = o := fun hp => ((performing_iff u _).1 hp).2.1
  have hpast := fun hc => h.outcome_past_compute hc hb he
  cases h with
  | wait hs => simp [State.busy, hs] at he
  | unreachable => simp [hb] at he
  | nop hp | checksum hp | verify hp => rw [hop hp]; exact List.mem_singleton.2 rfl
  | encode hp => rw [hop hp]; exact encodeWork_outcome_allowed u
  | merge hp => rw [hop hp]; exact mergeWork_outcome_allowed u
  | build hp => exact builderWork_outcome_allowed u (.inl (hop hp)) he
  | execute hp => exact builderWork_outcome_allowed u (.inr (hop hp)) he
  | classify hp => rw [hop hp]; exact classify_outcome_allowed u.hostBytes
  | frameSent hs ho | awaitLen hs ho | awaitBody hs ho | validated hs ho =>
    have hsub : allowedOutcomes .classify ⊆ allowedOutcomes .execute := by decide
    rw [ho]
    exact hsub (hpast (by simp [hs]))

/-- Settles O50: the ports keep the operation, and the cycle that ends it leaves one of its outcomes. -/
theorem outcomesOfEachOperation : Obligations.OutcomesOfEachOperation := by
  unfold Obligations.OutcomesOfEachOperation
  intro s t hr hb hst he
  obtain ⟨-, hc⟩ | ⟨hi, -⟩ | ⟨hi, -⟩ := step_no_reset s t hr hst
  · simpa using hc.outcome_allowed (by simpa using hb) he
  · simp [hb] at hi
  · simp [hb] at hi

end Sys2Proof.Machine
end

section
/-! PROOFS. A frame no byte of which is taken keeps EXECUTE in FRAME_SENT until a reset, and a reset resets the whole
block. -/

namespace Sys2Proof.Machine

/-! ### Reset (R141, R142) -/

@[simp] theorem latch_offered (s : State) : s.latch.offered = s.offered := by simp [State.offered]

theorem resetCycle_taken (s : State) : (resetCycle s).taken = (peerTakes s).taken := rfl

/-- In a reset cycle the peer takes the byte offered, if one is and it is ready, and nothing else (R142). -/
theorem resetCycle_latch_taken (s : State) :
    (resetCycle s.latch).taken = s.taken ∨
      s.seq = .frameSent ∧ s.latch.ports.txReady = true ∧ (resetCycle s.latch).taken = s.taken ++ [s.offered] := by
  rw [resetCycle_taken, peerTakes_taken, latch_taken, latch_offered]
  split
  next h =>
    obtain ⟨hv, hr⟩ := Bool.and_eq_true_iff.1 h
    exact .inr ⟨by simpa using (txValid_iff s.latch).1 hv, hr, rfl⟩
  next => exact .inl rfl

/-- Settles O44: a step with reset is a reset cycle, which takes all but what lies outside the block from the reset
state. -/
theorem resetOverridesEverything : Obligations.ResetOverridesEverything := by
  unfold Obligations.ResetOverridesEverything
  exact fun s hr => ⟨resetCycle s.latch, step_reset s hr, rfl, resetCycle_latch_taken s⟩

/-! ### A frame nobody takes (R112, R150) -/

/-- In FRAME_SENT a cycle without reset and with `tx_ready` = 0 is the ports' alone. -/
theorem step_frameSent_not_ready {s : State} (ho : s.op = .execute) (hs : s.seq = .frameSent)
    (hr : s.latch.ports.rst = false) (htx : s.latch.ports.txReady = false) : step s = .next (portSide s.latch) := by
  rw [step_execute s hr ((busy_iff s).2 (by simp [hs])) ho,
    executeCycle_frameSent (by simpa using hs) (by simpa using ho), frameSentCycle_not_ready (by simpa using htx)]

/-- However many such cycles pass, EXECUTE still offers the same byte, and DONE stays 0. -/
theorem run_frameSent_not_ready (k : Nat) {s : State} (ho : s.op = .execute) (hs : s.seq = .frameSent)
    (hd : s.done = false) (hi : ∀ p ∈ s.inputs.take k, p.rst = false ∧ p.txReady = false) :
    ∃ t, Sys2Proof.core.run k s = .next t ∧ t.seq = .frameSent ∧ t.done = false ∧ t.txIdx = s.txIdx ∧
      t.taken = s.taken := by
  induction k generalizing s with
  | zero => exact ⟨s, rfl, hs, hd, rfl, rfl⟩
  | succ k ih =>
    obtain ⟨hr, htx⟩ := latch_ports_of_forall_take (P := fun p => p.rst = false ∧ p.txReady = false) ⟨rfl, rfl⟩ hi
    have hd' : (portSide s.latch).done = false := by simp [portSide_done, hd]
    obtain ⟨t, hrun, hseq, hdone, hidx, htaken⟩ :=
      ih (s := portSide s.latch) (by simpa using ho) (by simpa using hs) hd' (by simpa using forall_take_tail hi)
    exact ⟨t, (run_succ_of_step k (step_frameSent_not_ready ho hs hr htx)).trans hrun, hseq, hdone,
      by simpa using hidx, by simpa using htaken⟩

/-- Settles O57: untaken, the frame keeps EXECUTE in FRAME_SENT, which is BUSY; a reset ends it. -/
theorem untakenFrameHangs : Obligations.UntakenFrameHangs := by
  unfold Obligations.UntakenFrameHangs
  refine ⟨fun k s ho hs hd hi => ?_, fun s _ hr => ⟨resetCycle s.latch, step_reset s hr, rfl⟩⟩
  obtain ⟨t, hrun, hseq, hdone, hidx, htaken⟩ := run_frameSent_not_ready k ho hs hd hi
  exact ⟨t, hrun, hseq, (busy_iff t).2 (by simp [hseq]), hdone, hidx, htaken⟩

end Sys2Proof.Machine
end
